-- ==== Sys2Proof/Word.lean ====
section
/-! DEFINITION. The two word types of the machine (R7, R9). -/

namespace Sys2Proof

/-- A byte: an unsigned 8-bit value, arithmetic modulo 256 (R9). -/
abbrev Byte := BitVec 8

/-- A word: an unsigned 16-bit value, arithmetic modulo 65536 (R9). -/
abbrev Word := BitVec 16

end Sys2Proof
end

