-- ==== Sys2Proof/Machine/Bits.lean ====
section
/-! DEFINITION. Bit fields, byte order and sign extension (R9, R51). Bit `i` of `v`, the spec's `v[i]`,
is written `v.getLsbD i`. -/

namespace Sys2Proof.Machine

/-- `lo8(w)`, bits 7 to 0 (R9). -/
def lo8 (w : Word) : Byte := w.extractLsb' 0 8

/-- `hi8(w)`, bits 15 to 8 (R9). -/
def hi8 (w : Word) : Byte := w.extractLsb' 8 8

/-- The spec's concatenation of a high and a low byte into a word, `h * 256 + l` (R9). -/
def joinBytes (h l : Byte) : Word := h ++ l

/-- `zext_16(b)` (R9). -/
def zext16 (b : Byte) : Word := b.setWidth 16

/-- `sext_8(b)` as an addend of a word: the byte read as two's complement (R9). -/
def sext16 (b : Byte) : Word := b.signExtend 16

/-- The address of a stack byte, `0x0100 + SP` (R13, R23). -/
def stackAddr (sp : Byte) : Word := 0x0100#16 + zext16 sp

/-- Whether two addresses lie in different 256-byte pages (R146). -/
def pageCrossed (a b : Word) : Bool := hi8 a != hi8 b

/-- The byte whose bit `c` is `f c` (R73). -/
def byteOfBits (f : Fin 8 → Bool) : Byte :=
  BitVec.ofBoolListLE [f 0, f 1, f 2, f 3, f 4, f 5, f 6, f 7]

end Sys2Proof.Machine
end

