-- ==== Sys2Proof/Config.lean ====
section
/-! DEFINITION. What is fixed for one machine: the implementation parameters of R8 as plain data, the
placeholder platform TEST_MAP of 92_eei_decisions, the power-on draws (R41, D11), and the free values
(R204). The parameters ride in the state (`State.cfg`), so that a statement about every state is a
statement about every platform; no step changes them. DESIGN CHOICE (log 1). -/

namespace Sys2Proof

/-- Bytes by address, in ONE canonical form: addresses strictly rising, none listed that holds what an
unlisted address reads as (`Machine.Memory.wf`). -/
abbrev Memory := List Host.Cell

/-- What an address that is not listed reads as. The spec gives RAM and video bytes no power-on value
(R41: a draw); 0x00 is the model's. DESIGN CHOICE, unsafe (log 4). -/
def Memory.unlisted : Byte := 0x00

/-- The backing kinds of a region (R56): RAM, ROM, and the peripherals. The bank window is a ROM region
whose bytes come from the selected bank (R61). -/
inductive RegionKind where
  | ram | rom | uart | keyboard | video | bankReg | bankWindow
deriving DecidableEq, Repr

/-- One entry of the region table: the inclusive range `lo` to `hi` and its kind (R57). -/
structure Region where
  lo   : Nat
  hi   : Nat
  kind : RegionKind
deriving DecidableEq, Repr

/-- KBD_ROW_DECODE (R73): which rows a row-select value shows. `lowThreeBits` is the placeholder
`v & 7`; `table` gives the set for each value 0 to 255 in order, and the empty set past its end.
Plain data for a function of a byte: DESIGN CHOICE (log 10). -/
inductive RowDecode where
  | lowThreeBits
  | table (rows : List (List (Fin 8)))
deriving DecidableEq, Repr

/-- DECIMAL_NONBCD (R204, D29). -/
inductive DecimalNonBcd where
  | clark | draw
deriving DecidableEq, Repr

/-- The bank-select register when it is wired (R61, D23). -/
structure BankConfig where
  regAddr    : Word
  windowBase : Word
  windowSize : Nat
  count      : Nat
  init       : Nat
  images     : List Memory
deriving DecidableEq, Repr

/-- The implementation parameters of R8. Before startup `regions` is REGION_TABLE and the overrides are
the external ones; after startup `regions` also holds the regions that startup adds (R57) and the
overrides are the effective ones (R414). -/
structure Config where
  regions        : List Region
  loadAddr       : Word
  resetOverride  : Option Word
  irqOverride    : Option Word
  nmiOverride    : Option Word
  uartStatusAddr : Word
  uartDataAddr   : Word
  uartDaBit      : Fin 8
  uartOvrBit     : Fin 8
  uartCapacity   : Nat
  uartNormalize  : Bool
  videoBase      : Word
  videoSize      : Nat
  videoWidth     : Nat
  videoHeight    : Nat
  cyclesPerFrame : Nat
  kbdRowAddr     : Word
  kbdColAddr     : Word
  kbdRowDecode   : RowDecode
  kbdActiveLow   : Bool
  bank           : Option BankConfig
  decimalNonBcd  : DecimalNonBcd
deriving DecidableEq, Repr

/-- TEST_MAP of 92_eei_decisions, the spec's own placeholder platform (not the Cody's map, N8), with no
entry binary in it. UART_NORMALIZE is "as the vector states"; false here. -/
def Config.testMap : Config where
  regions :=
    [ ⟨0x0000, 0xBFFF, .ram⟩,
      ⟨0xC000, 0xCFFF, .video⟩,
      ⟨0xD000, 0xD00F, .uart⟩,
      ⟨0xD010, 0xD01F, .keyboard⟩ ]
  loadAddr       := 0xE000
  resetOverride  := none
  irqOverride    := none
  nmiOverride    := none
  uartStatusAddr := 0xD000
  uartDataAddr   := 0xD001
  uartDaBit      := 0
  uartOvrBit     := 1
  uartCapacity   := 256
  uartNormalize  := false
  videoBase      := 0xC000
  videoSize      := 4096
  videoWidth     := 64
  videoHeight    := 64
  cyclesPerFrame := 16667
  kbdRowAddr     := 0xD010
  kbdColAddr     := 0xD011
  kbdRowDecode   := .lowThreeBits
  kbdActiveLow   := false
  bank           := none
  decimalNonBcd  := .clark

/-- The power-on draws (R41, D11): the registers, all flags, the PC before the reset sequence, and the
RAM and video bytes that no image fills. `ram` also gives the bytes of a ROM entry of REGION_TABLE, which no
image can fill and for which the spec gives no contents: DESIGN CHOICE (log 23). -/
structure PowerOn where
  a     : Byte
  x     : Byte
  y     : Byte
  sp    : Byte
  pc    : Word
  flagN : Bool
  flagV : Bool
  flagD : Bool
  flagI : Bool
  flagZ : Bool
  flagC : Bool
  ram   : Memory
  video : Memory
deriving DecidableEq, Repr

/-- The draws that `State.reset` stands for: every register 0, every flag clear, every byte 0x00.
DESIGN CHOICE, unsafe (log 3, log 4). -/
def PowerOn.zero : PowerOn where
  a := 0
  x := 0
  y := 0
  sp := 0
  pc := 0
  flagN := false
  flagV := false
  flagD := false
  flagI := false
  flagZ := false
  flagC := false
  ram := []
  video := []

/-- Free value (R204, DECIMAL_NONBCD = draw): A after the n-th such ADC or SBC. No body: nothing can be
proved of its value (log 8). -/
opaque Config.freeDecimalA : Nat → BitVec 8

/-- Free value (R204): N after the n-th such ADC or SBC (log 8). -/
opaque Config.freeDecimalN : Nat → Bool

/-- Free value (R204): V after the n-th such ADC or SBC (log 8). -/
opaque Config.freeDecimalV : Nat → Bool

/-- Free value (R204): Z after the n-th such ADC or SBC (log 8). -/
opaque Config.freeDecimalZ : Nat → Bool

/-- Free value (R204): C after the n-th such ADC or SBC (log 8). -/
opaque Config.freeDecimalC : Nat → Bool

end Sys2Proof
end

