-- ==== Sys2Proof/Machine/State.lean ====
section
/-! DEFINITION. The machine's state as plain data (R20 to R41), why a step can stop (it never does,
R350), and the state after reset. -/

namespace Sys2Proof.Machine

/-- The run state (R34). -/
inductive RunState where
  | running | waiting | stopped
deriving DecidableEq, Repr

/-- Everything the spec gives the machine. Fields in the spec's order; see INVENTORY.md. -/
structure State where
  /-- The platform parameters, fixed for the run (R8, R57, R414; log 1). -/
  cfg           : Config
  /-- A, the accumulator (R21). -/
  a             : Byte
  /-- X, an index register (R22). -/
  x             : Byte
  /-- Y, an index register (R22). -/
  y             : Byte
  /-- SP, an offset into page 1 (R23). -/
  sp            : Byte
  /-- PC (R24). -/
  pc            : Word
  /-- P.N (R26). -/
  flagN         : Bool
  /-- P.V (R27). -/
  flagV         : Bool
  /-- P.D (R28). -/
  flagD         : Bool
  /-- P.I (R29). -/
  flagI         : Bool
  /-- P.Z (R30). -/
  flagZ         : Bool
  /-- P.C (R31). -/
  flagC         : Bool
  /-- `run` (R34). -/
  run           : RunState
  /-- `nmi_line`, driven by the host (R35). -/
  nmiLine       : Bool
  /-- `nmi_latch` (R35). -/
  nmiLatch      : Bool
  /-- `irq_line`, driven by the host (R36). -/
  irqLine       : Bool
  /-- `mem`: the bytes that RAM and ROM regions hold, by address (R38). -/
  mem           : Memory
  /-- `uart_queue`, oldest byte first (R63 to R69). -/
  uartQueue     : List Byte
  /-- `uart_overrun` (R69). -/
  uartOverrun   : Bool
  /-- `kbd_matrix`: row, then column; true means pressed (R70). -/
  kbdMatrix     : Vector (Vector Bool 8) 8
  /-- `kbd_row_sel` (R70, R71). -/
  kbdRowSel     : Byte
  /-- `video_buf`, by offset from VIDEO_BASE (R76). -/
  videoBuf      : Memory
  /-- `video_gen` (R78). -/
  videoGen      : Nat
  /-- `video_snapshot`, by offset from VIDEO_BASE (R79). -/
  videoSnapshot : Memory
  /-- `frame_cycles` (R78). -/
  frameCycles   : Nat
  /-- `bank_sel` (R61). -/
  bankSel       : Nat
  /-- The value the last step returned (R15, R37, R430; log 6). -/
  cycles        : Nat
  /-- The model's own field: how many free values have been drawn (R204; log 8). -/
  freeCount     : Nat
deriving DecidableEq, Repr

/-- Why the machine stops with a fault. It has no constructor: "The step never fails. It has no fault
outcome and no refusal outcome" (R350). Safe: nothing raises it. -/
inductive Fault where
deriving DecidableEq, Repr

/-- Why an instruction has no meaning. -/
inductive Refusal where
  /-- The instruction has no meaning in this model yet; raised only by a refused arm of `exec`. Every
  arm has its meaning, so nothing raises it. Safe: the machine stops. -/
  | notModelled (mnemonic : String)
deriving DecidableEq, Repr

/-- The three outcomes of one step of this machine. -/
abbrev Result := Host.Outcome State Fault Refusal

/-- The machine right after reset: startup (R411) on TEST_MAP with an empty entry binary, no cartridge
and an empty UART source, all power-on draws zero, then the reset sequence (R400). SP is 0x00 less 3.
The PC is the RESET vector read through the Bus, 0x0000, for nothing maps 0xFFFC (R58, R60).
DESIGN CHOICE where the spec leaves a draw or a parameter open, unsafe (log 1, 2, 3, 4, 6, 8, 12). -/
def State.reset : State where
  cfg           := Config.testMap
  a             := 0x00
  x             := 0x00
  y             := 0x00
  sp            := 0xFD
  pc            := 0x0000
  flagN         := false
  flagV         := false
  flagD         := false
  flagI         := true
  flagZ         := false
  flagC         := false
  run           := .running
  nmiLine       := false
  nmiLatch      := false
  irqLine       := false
  mem           := []
  uartQueue     := []
  uartOverrun   := false
  kbdMatrix     := Vector.replicate 8 (Vector.replicate 8 false)
  kbdRowSel     := 0x00
  videoBuf      := []
  videoGen      := 0
  videoSnapshot := []
  frameCycles   := 0
  bankSel       := 0
  cycles        := 0
  freeCount     := 0

end Sys2Proof.Machine
end

