-- ==== Sys2Proof/Machine/Bus.lean ====
section
/-! DEFINITION. The Bus: dispatch of one byte's read and write by the region table, and the peripherals
behind it (R50 to R77). -/

namespace Sys2Proof.Machine

/-- Whether a region contains an address (R57: inclusive at both ends). -/
def regionHas (a : Word) (r : Region) : Bool := decide (r.lo ≤ a.toNat) && decide (a.toNat ≤ r.hi)

/-- The kind of the first region of the table that contains `a`; none where `a` is unmapped (R54). -/
def lookupRegion (rs : List Region) (a : Word) : Option RegionKind :=
  (rs.find? (regionHas a)).map Region.kind

/-- The kind of the region that maps `a` on this machine (R54, R57). -/
def State.regionAt (s : State) (a : Word) : Option RegionKind := lookupRegion s.cfg.regions a

/-- The UART STATUS byte: DataAvailable and Overrun at their bits, every other bit 0 (R64). -/
def State.uartStatus (s : State) : Byte :=
  ((if s.uartQueue.isEmpty then 0x00#8 else 0x01#8) <<< s.cfg.uartDaBit.val) |||
    ((if s.uartOverrun then 0x01#8 else 0x00#8) <<< s.cfg.uartOvrBit.val)

/-- A read of the UART DATA register: the head of the queue, or 0x00 where it is empty (R65). -/
def State.uartHead (s : State) : Byte := s.uartQueue.headD 0x00

/-- What a read in the UART block returns (R63 to R65); other bytes of the block read 0x00 (D34).
Where both registers had one address STATUS would be read: DESIGN CHOICE (log 15). -/
def State.uartValue (s : State) (a : Word) : Byte :=
  if a = s.cfg.uartStatusAddr then s.uartStatus
  else if a = s.cfg.uartDataAddr then s.uartHead
  else 0x00

/-- The queue after a read in the UART block: a DATA read pops one byte (R62, R65). -/
def State.uartAfterRead (s : State) (a : Word) : List Byte :=
  if a = s.cfg.uartStatusAddr then s.uartQueue
  else if a = s.cfg.uartDataAddr then s.uartQueue.tail
  else s.uartQueue

/-- The rows that a row-select value shows (R73, KBD_ROW_DECODE). -/
def decodeRows (d : RowDecode) (v : Byte) : List (Fin 8) :=
  match d with
  | .lowThreeBits => [⟨v.toNat % 8, Nat.mod_lt _ (by decide)⟩]
  | .table rows => rows.getD v.toNat []

/-- Whether some selected row has its key of column `c` down (R73, `raw[c]`). -/
def State.kbdColumnDown (s : State) (c : Fin 8) : Bool :=
  (decodeRows s.cfg.kbdRowDecode s.kbdRowSel).any fun r => (s.kbdMatrix.get r).get c

/-- The COL register (R73). -/
def State.kbdCol (s : State) : Byte :=
  let raw := byteOfBits s.kbdColumnDown
  if s.cfg.kbdActiveLow then ~~~raw else raw

/-- What a read in the keyboard block returns (R70, R72, R73); other bytes read 0x00 (D34). -/
def State.kbdValue (s : State) (a : Word) : Byte :=
  if a = s.cfg.kbdRowAddr then s.kbdRowSel
  else if a = s.cfg.kbdColAddr then s.kbdCol
  else 0x00

/-- The offset of `a` in the video buffer (R76; log 18). -/
def State.videoOffset (s : State) (a : Word) : Nat := a.toNat - s.cfg.videoBase.toNat

/-- What a read of the bank-select register returns (R61). -/
def State.bankRegValue (s : State) : Byte := BitVec.ofNat 8 s.bankSel

/-- The byte that the bank window shows at `a`: the selected bank's (R61). A bank that BANK_IMAGES does
not list holds zeros: DESIGN CHOICE (log 12). -/
def State.bankWindowValue (s : State) (a : Word) : Byte :=
  match s.cfg.bank with
  | some b => (b.images.getD s.bankSel []).read (a.toNat - b.windowBase.toNat)
  | none => 0x00

/-- The value that `Read8(a)` returns (R54). -/
def State.busValue (s : State) (a : Word) : Byte :=
  match s.regionAt a with
  | none => 0x00
  | some .ram => s.mem.read a.toNat
  | some .rom => s.mem.read a.toNat
  | some .uart => s.uartValue a
  | some .keyboard => s.kbdValue a
  | some .video => s.videoBuf.read (s.videoOffset a)
  | some .bankReg => s.bankRegValue
  | some .bankWindow => s.bankWindowValue a

/-- The UART queue after `Read8(a)`. This is the only state that a read can change (R62). -/
def State.queueAfterRead (s : State) (a : Word) : List Byte :=
  match s.regionAt a with
  | some .uart => s.uartAfterRead a
  | _ => s.uartQueue

/-- `Read8(a)`, one bus read: the byte and the state after its side effect (R11, R54, R62). -/
def State.read8 (s : State) (a : Word) : Byte × State :=
  (s.busValue a, { s with uartQueue := s.queueAfterRead a })

/-- A write of the bank-select register: `bank_sel <- v mod BANK_COUNT` (R61). -/
def State.bankSelect (s : State) (v : Byte) : Nat :=
  match s.cfg.bank with
  | some b => v.toNat % b.count
  | none => s.bankSel

/-- `Write8(a, v)`, one bus write (R11, R55): RAM stores; ROM, the bank window, the UART block, and
unmapped addresses ignore it (R58, R59, R61, R66); the keyboard block takes ROWSEL only (R71, R72);
the video buffer and the bank-select register take it (R76, R61). -/
def State.write8 (s : State) (a : Word) (v : Byte) : State :=
  match s.regionAt a with
  | none => s
  | some .ram => { s with mem := s.mem.write a.toNat v }
  | some .rom => s
  | some .uart => s
  | some .keyboard => if a = s.cfg.kbdRowAddr then { s with kbdRowSel := v } else s
  | some .video => { s with videoBuf := s.videoBuf.write (s.videoOffset a) v }
  | some .bankReg => { s with bankSel := s.bankSelect v }
  | some .bankWindow => s

/-- `Read16(a)`: the low byte at `a` first, then the high byte at `a + 1`, wrapping at 0xFFFF (R11). -/
def State.read16 (s : State) (a : Word) : Word × State :=
  let l := s.read8 a
  let h := l.2.read8 (a + 1)
  (joinBytes h.1 l.1, h.2)

/-- `Read16zp(z)`: as `Read16` with the second byte wrapping inside zero page (R11). -/
def State.read16zp (s : State) (z : Byte) : Word × State :=
  let l := s.read8 (zext16 z)
  let h := l.2.read8 (zext16 (z + 1))
  (joinBytes h.1 l.1, h.2)

end Sys2Proof.Machine
end

