-- ==== Sys2Proof/Machine/Flags.lean ====
section
/-! DEFINITION. The flags of P and every computation of them: SetNZ and Pbyte (R14, R25 to R33), binary
and decimal addition and subtraction (R203 to R208), compare (R209), shifts (R246 to R249). -/

namespace Sys2Proof.Machine

/-- `SetNZ(v)` (R14). -/
def State.setNZ (s : State) (v : Byte) : State :=
  { s with flagN := v.getLsbD 7, flagZ := v == 0x00 }

/-- `Pbyte(b)`: the flag byte as pushed with break bit `b`, bit 5 always 1 (R14, R25, R33). -/
def State.pByte (s : State) (b : Bool) : Byte :=
  BitVec.ofBoolListBE [s.flagN, s.flagV, true, b, s.flagD, s.flagI, s.flagZ, s.flagC]

/-- The six flags from a pulled byte; bits 5 and 4 are ignored (R33). -/
def State.setP (s : State) (v : Byte) : State :=
  { s with
    flagN := v.getLsbD 7
    flagV := v.getLsbD 6
    flagD := v.getLsbD 3
    flagI := v.getLsbD 2
    flagZ := v.getLsbD 1
    flagC := v.getLsbD 0 }

/-- What an addition or subtraction gives: the result byte, C and V. -/
structure AluOut where
  r : Byte
  c : Bool
  v : Bool
deriving DecidableEq, Repr

/-- `BinAdd(a, m, c)` (R203). -/
def binAdd (a m : Byte) (c : Bool) : AluOut :=
  let s := a.toNat + m.toNat + c.toNat
  let r := BitVec.ofNat 8 s
  { r := r
    c := decide (s > 0xFF)
    v := ((~~~(a ^^^ m)) &&& (a ^^^ r) &&& 0x80#8) != 0x00#8 }

/-- `BinSub(a, m, c) = BinAdd(a, m ^ 0xFF, c)` (R207). -/
def binSub (a m : Byte) (c : Bool) : AluOut := binAdd a (m ^^^ 0xFF#8) c

/-- `DecAdd(a, m, c)`, over the integers (R205). -/
def decAdd (a m : Byte) (c : Bool) : AluOut :=
  let al₀ := (a &&& 0x0F#8).toNat + (m &&& 0x0F#8).toNat + c.toNat
  let al := if al₀ ≥ 0x0A then (al₀ + 0x06) % 0x10 + 0x10 else al₀
  let s₀ := (a &&& 0xF0#8).toNat + (m &&& 0xF0#8).toNat + al
  let sv : Int := (a &&& 0xF0#8).toInt + (m &&& 0xF0#8).toInt + al
  let s := if s₀ ≥ 0xA0 then s₀ + 0x60 else s₀
  { r := BitVec.ofNat 8 s
    c := decide (s ≥ 0x100)
    v := decide (sv < -128) || decide (sv > 127) }

/-- `DecSub(a, m, c)`, over the integers; C and V exactly as in binary mode (R208). -/
def decSub (a m : Byte) (c : Bool) : AluOut :=
  let al : Int := ((a &&& 0x0F#8).toNat : Int) - (m &&& 0x0F#8).toNat + c.toNat - 1
  let s₀ : Int := (a.toNat : Int) - m.toNat + c.toNat - 1
  let s₁ := if s₀ < 0 then s₀ - 0x60 else s₀
  let s := if al < 0 then s₁ - 0x06 else s₁
  { r := BitVec.ofInt 8 s
    c := (binSub a m c).c
    v := (binSub a m c).v }

/-- Valid BCD: both nibbles 0 to 9 (R204). -/
def validBcd (b : Byte) : Bool := decide (b.toNat % 16 ≤ 9) && decide (b.toNat / 16 ≤ 9)

/-- A and the flags V and C from an ALU result, then N and Z from A (R202, R206). -/
def State.setAlu (s : State) (o : AluOut) : State :=
  ({ s with a := o.r, flagC := o.c, flagV := o.v }).setNZ o.r

/-- A, N, V, Z and C after a decimal operation on operands that are not valid BCD under
DECIMAL_NONBCD = draw: free values (R204; log 8). -/
def State.setFreeDecimal (s : State) : State :=
  { s with
    a := Config.freeDecimalA s.freeCount
    flagN := Config.freeDecimalN s.freeCount
    flagV := Config.freeDecimalV s.freeCount
    flagZ := Config.freeDecimalZ s.freeCount
    flagC := Config.freeDecimalC s.freeCount
    freeCount := s.freeCount + 1 }

/-- Whether a decimal operation on A and `m` draws free values (R204). -/
def State.drawsDecimal (s : State) (m : Byte) : Bool :=
  s.flagD && (s.cfg.decimalNonBcd == .draw) && !(validBcd s.a && validBcd m)

/-- `Compare(r, m)`: C, Z and N only (R209). -/
def State.compare (s : State) (r m : Byte) : State :=
  { s with
    flagC := decide (r.toNat ≥ m.toNat)
    flagZ := r == m
    flagN := (r - m).getLsbD 7 }

/-- A byte and the carry that left it. -/
structure ShiftOut where
  r : Byte
  c : Bool
deriving DecidableEq, Repr

/-- Arithmetic shift left by one (R246). -/
def shiftAsl (v : Byte) : ShiftOut := ⟨v <<< 1, v.getLsbD 7⟩

/-- Logical shift right by one (R247). -/
def shiftLsr (v : Byte) : ShiftOut := ⟨v >>> 1, v.getLsbD 0⟩

/-- Rotate left through carry (R248). -/
def shiftRol (c : Bool) (v : Byte) : ShiftOut := ⟨(v <<< 1) ||| (BitVec.ofBool c).setWidth 8, v.getLsbD 7⟩

/-- Rotate right through carry (R249). -/
def shiftRor (c : Bool) (v : Byte) : ShiftOut :=
  ⟨(v >>> 1) ||| ((BitVec.ofBool c).setWidth 8 <<< 7), v.getLsbD 0⟩

/-- The byte with only bit `n` set, `1 << n` (R250, R251). -/
def bitMask (n : Fin 8) : Byte := 0x01#8 <<< n.val

end Sys2Proof.Machine
end

