-- ==== Sys2Proof/Machine/Ops.lean ====
section
/-! DEFINITION. The named operations that instructions share: register writes, the instruction stream
(R12), the stack (R13), the cycle count (R430), vectors (R356), interrupt entry (R355), the return from
it (R297), the reset sequence (R400) and the frame tick (R78). -/

namespace Sys2Proof.Machine

/-- `A <- v`. -/
def State.setA (s : State) (v : Byte) : State := { s with a := v }

/-- `X <- v`. -/
def State.setX (s : State) (v : Byte) : State := { s with x := v }

/-- `Y <- v`. -/
def State.setY (s : State) (v : Byte) : State := { s with y := v }

/-- `SP <- v`. -/
def State.setSP (s : State) (v : Byte) : State := { s with sp := v }

/-- `PC <- w`, a control transfer (R10). -/
def State.setPC (s : State) (w : Word) : State := { s with pc := w }

/-- `P.V <- b`. -/
def State.setV (s : State) (b : Bool) : State := { s with flagV := b }

/-- `P.D <- b`. -/
def State.setD (s : State) (b : Bool) : State := { s with flagD := b }

/-- `P.I <- b`. -/
def State.setI (s : State) (b : Bool) : State := { s with flagI := b }

/-- `P.Z <- b`. -/
def State.setZ (s : State) (b : Bool) : State := { s with flagZ := b }

/-- `P.C <- b`. -/
def State.setC (s : State) (b : Bool) : State := { s with flagC := b }

/-- `run <- r` (R34). -/
def State.setRun (s : State) (r : RunState) : State := { s with run := r }

/-- `cycles <- n` (R15). -/
def State.setCycles (s : State) (n : Nat) : State := { s with cycles := n }

/-- The cycle entry of a row of the opcode table: the base count, and whether a page crossing and
decimal mode each add one (R430). -/
structure Cost where
  base : Nat
  page : Bool
  dec  : Bool
deriving DecidableEq, Repr

/-- A row with no penalty. -/
def Cost.fixed (n : Nat) : Cost := ⟨n, false, false⟩

/-- A row with `page_cross+1` (R431). -/
def Cost.paged (n : Nat) : Cost := ⟨n, true, false⟩

/-- A row with `decimal+1` (R433). -/
def Cost.decimal (n : Nat) : Cost := ⟨n, false, true⟩

/-- A row with `page_cross+1` and `decimal+1`. -/
def Cost.pagedDecimal (n : Nat) : Cost := ⟨n, true, true⟩

/-- The count of R430 for a row that is no branch, given `crossed` and P.D. -/
def Cost.total (k : Cost) (crossed d : Bool) : Nat :=
  k.base + (if k.page && crossed then 1 else 0) + (if k.dec && d then 1 else 0)

/-- Sets the step's cycle count from a row's entry (R430). -/
def State.charge (s : State) (k : Cost) (crossed : Bool) : State :=
  s.setCycles (k.total crossed s.flagD)

/-- `Fetch8()`: the byte at PC through the Bus, then PC + 1, wrapping at 0xFFFF (R12, R24). -/
def State.fetch8 (s : State) : Byte × State :=
  let r := s.read8 s.pc
  (r.1, r.2.setPC (s.pc + 1))

/-- The Bus access and the PC step of one operand fetch, whose value the instruction already carries
(`fetchInstr`; DEDUCED, log 5). -/
def State.operandFetch (s : State) : State := s.fetch8.2

/-- `Push8(v)`: write at 0x0100 + SP, then SP - 1 (R13, R23). -/
def State.push8 (s : State) (v : Byte) : State :=
  (s.write8 (stackAddr s.sp) v).setSP (s.sp - 1)

/-- `Pull8()`: SP + 1, then read at 0x0100 + SP (R13, R23). -/
def State.pull8 (s : State) : Byte × State :=
  (s.setSP (s.sp + 1)).read8 (stackAddr (s.sp + 1))

/-- A word pushed high byte first (R51, R86). -/
def State.push16 (s : State) (w : Word) : State := (s.push8 (hi8 w)).push8 (lo8 w)

/-- A word pulled low byte first (R86, R295, R297). -/
def State.pull16 (s : State) : Word × State :=
  let l := s.pull8
  let h := l.2.pull8
  (joinBytes h.1 l.1, h.2)

/-- The events that load PC from a vector (R352). BRK uses the IRQ vector (D9). -/
inductive VectorKind where
  | reset | nmi | irq
deriving DecidableEq, Repr

/-- The address of a vector's low byte (R60, R356). -/
def VectorKind.addr : VectorKind → Word
  | .reset => 0xFFFC
  | .nmi => 0xFFFA
  | .irq => 0xFFFE

/-- The effective override of a vector (R356, R414). -/
def VectorKind.override (k : VectorKind) (c : Config) : Option Word :=
  match k with
  | .reset => c.resetOverride
  | .nmi => c.nmiOverride
  | .irq => c.irqOverride

/-- `PC <- Vector(kind)`: the override with no bus read, or else the two bytes at the vector's address
(R356). -/
def State.loadVector (s : State) (k : VectorKind) : State :=
  match k.override s.cfg with
  | some w => s.setPC w
  | none =>
    let r := s.read16 k.addr
    r.2.setPC r.1

/-- TAKING AN EXCEPTION: PC high, PC low and the flag byte with break bit `b` are pushed, I is set, D is
cleared, and PC is loaded from the vector (R355; R296 for BRK, with `b` true). -/
def State.enterVector (s : State) (k : VectorKind) (b : Bool) : State :=
  let s₁ := s.push16 s.pc
  let s₂ := s₁.push8 (s₁.pByte b)
  ((s₂.setI true).setD false).loadVector k

/-- `Enter(NMI)` and `Enter(IRQ)`: the hardware entry, with B clear, 7 cycles (R350, R355). -/
def State.enterInterrupt (s : State) (k : VectorKind) : State := (s.enterVector k false).setCycles 7

/-- RETURN FROM AN EXCEPTION: the flags are pulled, then PC low and high, with no + 1 (R297). -/
def State.returnFromInterrupt (s : State) : State :=
  let p := s.pull8
  let r := (p.2.setP p.1).pull16
  r.2.setPC r.1

/-- The reset sequence (R400): SP less 3 with nothing written, I set, D and the rest unchanged, run
Running, the NMI latch cleared, PC from the RESET vector. It is no step and returns no count (D27).
PC is what `Vector(RESET)` gives (R356), and no peripheral changes (R400, R41): where the UART DATA register
lies at the vector, its byte is read and stays in the queue. DESIGN CHOICE (log 21). -/
def State.resetSequence (s : State) : State :=
  { State.loadVector
      { s with sp := s.sp - 3, flagI := true, run := .running, nmiLatch := false } .reset with
    uartQueue := s.uartQueue }

/-- The loop of `frame_tick` (R78), at most `fuel` times round. With CYCLES_PER_FRAME 0 the spec's loop
would never end; here no frame is counted: DESIGN CHOICE (log 13). -/
def State.frameLoop : Nat → State → State
  | 0, s => s
  | fuel + 1, s =>
    if s.cfg.cyclesPerFrame ≤ s.frameCycles ∧ 0 < s.cfg.cyclesPerFrame then
      State.frameLoop fuel
        { s with
          frameCycles := s.frameCycles - s.cfg.cyclesPerFrame
          videoGen := s.videoGen + 1
          videoSnapshot := s.videoBuf }
    else s

/-- `frame_tick(n)`, applied by the driver after each step with its cycle count (R78, R371). Each turn
takes at least one cycle off, so `frame_cycles` turns are always enough. -/
def State.frameTick (s : State) (n : Nat) : State :=
  State.frameLoop (s.frameCycles + n) { s with frameCycles := s.frameCycles + n }

end Sys2Proof.Machine
end

