-- ==== Sys2Proof/Machine/Operands.lean ====
section
/-! DEFINITION. The addressing modes (R130 to R148): each mode's effective address, with the Bus accesses
that compute it in the order of R86, and the operand primitives ReadM and WriteM (R147). -/

namespace Sys2Proof.Machine

/-- The modes that give an operand, with the operand bytes the instruction carries (R101). -/
inductive Mode where
  /-- `OP A` (R131). -/
  | accumulator
  /-- `OP #$nn` (R132). -/
  | immediate (v : Byte)
  /-- `OP $zz` (R133). -/
  | zp (z : Byte)
  /-- `OP $zz,X` (R134). -/
  | zpX (z : Byte)
  /-- `OP $zz,Y` (R135). -/
  | zpY (z : Byte)
  /-- `OP ($zz,X)` (R136). -/
  | zpXInd (z : Byte)
  /-- `OP ($zz),Y` (R137). -/
  | zpIndY (z : Byte)
  /-- `OP ($zz)` (R138). -/
  | zpInd (z : Byte)
  /-- `OP $hhll` (R139). -/
  | abs (addr : Word)
  /-- `OP $hhll,X` (R140). -/
  | absX (addr : Word)
  /-- `OP $hhll,Y` (R141). -/
  | absY (addr : Word)
  /-- `JMP ($hhll)` (R142). -/
  | absInd (addr : Word)
  /-- `JMP ($hhll,X)` (R143). -/
  | absXInd (addr : Word)
deriving DecidableEq, Repr

/-- Where a resolved operand is: the accumulator, a value in the instruction, or an address `ea`. -/
inductive Loc where
  | acc
  | imm (v : Byte)
  | mem (ea : Word)
deriving DecidableEq, Repr

/-- What a mode produces: the operand's place and `crossed` (R146). -/
structure Operand where
  loc     : Loc
  crossed : Bool
deriving DecidableEq, Repr

/-- An operand at an address with no page crossing to count. -/
def Operand.at (ea : Word) : Operand := ⟨.mem ea, false⟩

/-- An operand at `base + index`, with `crossed` against the base (R137, R140, R141, R146). -/
def Operand.indexed (base : Word) (index : Byte) : Operand :=
  ⟨.mem (base + zext16 index), pageCrossed base (base + zext16 index)⟩

/-- A mode's operand and the state after its operand fetches and pointer reads (R130 to R143). PC stands
after the opcode on entry and after the whole instruction on return. -/
def resolve (m : Mode) (s : State) : Operand × State :=
  match m with
  | .accumulator => (⟨.acc, false⟩, s)
  | .immediate v => (⟨.imm v, false⟩, s.operandFetch)
  | .zp z => (.at (zext16 z), s.operandFetch)
  | .zpX z => (.at (zext16 (z + s.x)), s.operandFetch)
  | .zpY z => (.at (zext16 (z + s.y)), s.operandFetch)
  | .zpXInd z =>
    let p := s.operandFetch.read16zp (z + s.x)
    (.at p.1, p.2)
  | .zpIndY z =>
    let p := s.operandFetch.read16zp z
    (.indexed p.1 s.y, p.2)
  | .zpInd z =>
    let p := s.operandFetch.read16zp z
    (.at p.1, p.2)
  | .abs w => (.at w, s.operandFetch.operandFetch)
  | .absX w => (.indexed w s.x, s.operandFetch.operandFetch)
  | .absY w => (.indexed w s.y, s.operandFetch.operandFetch)
  | .absInd w =>
    let p := s.operandFetch.operandFetch.read16 w
    (.at p.1, p.2)
  | .absXInd w =>
    let p := s.operandFetch.operandFetch.read16 (w + zext16 s.x)
    (.at p.1, p.2)

/-- `ReadM()` (R147): the immediate value, A, or one Bus read at ea. -/
def readM (o : Operand) (s : State) : Byte × State :=
  match o.loc with
  | .acc => (s.a, s)
  | .imm v => (v, s)
  | .mem ea => s.read8 ea

/-- `WriteM(v)` (R147): A, or one Bus write at ea. No instruction writes an immediate (R132). -/
def writeM (o : Operand) (v : Byte) (s : State) : State :=
  match o.loc with
  | .acc => s.setA v
  | .imm _ => s
  | .mem ea => s.write8 ea v

/-- Whether a mode is the immediate one (R243). -/
def Mode.isImmediate : Mode → Bool
  | .immediate _ => true
  | _ => false

/-- The address a control transfer goes to: the operand's ea (R292, R293). -/
def Operand.target (o : Operand) : Word :=
  match o.loc with
  | .mem ea => ea
  | .imm v => zext16 v
  | .acc => 0

end Sys2Proof.Machine
end

