-- ==== Sys2Proof/Machine/Arithmetic.lean ====
section
/-! DEFINITION. ADC, SBC, the compares, increments and decrements (42_arithmetic, R200 to R218). One definition per row
of the opcode table, over the shared operation of its instruction. -/

namespace Sys2Proof.Machine

/-- ADC after its operand is read: binary or decimal by P.D (R202, R204). -/
def State.addOperand (s : State) (m : Byte) : State :=
  if s.drawsDecimal m then s.setFreeDecimal
  else if s.flagD then s.setAlu (decAdd s.a m s.flagC)
  else s.setAlu (binAdd s.a m s.flagC)

/-- ADC: add with carry (R202). -/
def opAdc (m : Mode) (k : Cost) (s : State) : State :=
  let o := resolve m s
  let r := readM o.1 o.2
  (r.2.addOperand r.1).charge k o.1.crossed

/-- `ADC ($nn,X)`, opcode 0x61 (R202, R136). -/
def execAdcZpXInd (z : Byte) (s : State) : Result :=
  .next (opAdc (.zpXInd z) (.decimal 6) s)

/-- `ADC $nn`, opcode 0x65 (R202, R133). -/
def execAdcZp (z : Byte) (s : State) : Result :=
  .next (opAdc (.zp z) (.decimal 3) s)

/-- `ADC #$nn`, opcode 0x69 (R202, R132). -/
def execAdcImm (v : Byte) (s : State) : Result :=
  .next (opAdc (.immediate v) (.decimal 2) s)

/-- `ADC $nnnn`, opcode 0x6D (R202, R139). -/
def execAdcAbs (addr : Word) (s : State) : Result :=
  .next (opAdc (.abs addr) (.decimal 4) s)

/-- `ADC ($nn),Y`, opcode 0x71 (R202, R137). -/
def execAdcZpIndY (z : Byte) (s : State) : Result :=
  .next (opAdc (.zpIndY z) (.pagedDecimal 5) s)

/-- `ADC ($nn)`, opcode 0x72 (R202, R138). -/
def execAdcZpInd (z : Byte) (s : State) : Result :=
  .next (opAdc (.zpInd z) (.decimal 5) s)

/-- `ADC $nn,X`, opcode 0x75 (R202, R134). -/
def execAdcZpX (z : Byte) (s : State) : Result :=
  .next (opAdc (.zpX z) (.decimal 4) s)

/-- `ADC $nnnn,Y`, opcode 0x79 (R202, R141). -/
def execAdcAbsY (addr : Word) (s : State) : Result :=
  .next (opAdc (.absY addr) (.pagedDecimal 4) s)

/-- `ADC $nnnn,X`, opcode 0x7D (R202, R140). -/
def execAdcAbsX (addr : Word) (s : State) : Result :=
  .next (opAdc (.absX addr) (.pagedDecimal 4) s)

/-- SBC after its operand is read: binary or decimal by P.D (R204, R206). -/
def State.subOperand (s : State) (m : Byte) : State :=
  if s.drawsDecimal m then s.setFreeDecimal
  else if s.flagD then s.setAlu (decSub s.a m s.flagC)
  else s.setAlu (binSub s.a m s.flagC)

/-- SBC: subtract with borrow (R206). -/
def opSbc (m : Mode) (k : Cost) (s : State) : State :=
  let o := resolve m s
  let r := readM o.1 o.2
  (r.2.subOperand r.1).charge k o.1.crossed

/-- `SBC ($nn,X)`, opcode 0xE1 (R206, R136). -/
def execSbcZpXInd (z : Byte) (s : State) : Result :=
  .next (opSbc (.zpXInd z) (.decimal 6) s)

/-- `SBC $nn`, opcode 0xE5 (R206, R133). -/
def execSbcZp (z : Byte) (s : State) : Result :=
  .next (opSbc (.zp z) (.decimal 3) s)

/-- `SBC #$nn`, opcode 0xE9 (R206, R132). -/
def execSbcImm (v : Byte) (s : State) : Result :=
  .next (opSbc (.immediate v) (.decimal 2) s)

/-- `SBC $nnnn`, opcode 0xED (R206, R139). -/
def execSbcAbs (addr : Word) (s : State) : Result :=
  .next (opSbc (.abs addr) (.decimal 4) s)

/-- `SBC ($nn),Y`, opcode 0xF1 (R206, R137). -/
def execSbcZpIndY (z : Byte) (s : State) : Result :=
  .next (opSbc (.zpIndY z) (.pagedDecimal 5) s)

/-- `SBC ($nn)`, opcode 0xF2 (R206, R138). -/
def execSbcZpInd (z : Byte) (s : State) : Result :=
  .next (opSbc (.zpInd z) (.decimal 5) s)

/-- `SBC $nn,X`, opcode 0xF5 (R206, R134). -/
def execSbcZpX (z : Byte) (s : State) : Result :=
  .next (opSbc (.zpX z) (.decimal 4) s)

/-- `SBC $nnnn,Y`, opcode 0xF9 (R206, R141). -/
def execSbcAbsY (addr : Word) (s : State) : Result :=
  .next (opSbc (.absY addr) (.pagedDecimal 4) s)

/-- `SBC $nnnn,X`, opcode 0xFD (R206, R140). -/
def execSbcAbsX (addr : Word) (s : State) : Result :=
  .next (opSbc (.absX addr) (.pagedDecimal 4) s)

/-- A compare of register value `v`: `M <- ReadM(); Compare(v, M)` (R209 to R212). -/
def opCompare (v : Byte) (m : Mode) (k : Cost) (s : State) : State :=
  let o := resolve m s
  let r := readM o.1 o.2
  (r.2.compare v r.1).charge k o.1.crossed

/-- `CMP ($nn,X)`, opcode 0xC1 (R210, R136). -/
def execCmpZpXInd (z : Byte) (s : State) : Result :=
  .next (opCompare s.a (.zpXInd z) (.fixed 6) s)

/-- `CMP $nn`, opcode 0xC5 (R210, R133). -/
def execCmpZp (z : Byte) (s : State) : Result :=
  .next (opCompare s.a (.zp z) (.fixed 3) s)

/-- `CMP #$nn`, opcode 0xC9 (R210, R132). -/
def execCmpImm (v : Byte) (s : State) : Result :=
  .next (opCompare s.a (.immediate v) (.fixed 2) s)

/-- `CMP $nnnn`, opcode 0xCD (R210, R139). -/
def execCmpAbs (addr : Word) (s : State) : Result :=
  .next (opCompare s.a (.abs addr) (.fixed 4) s)

/-- `CMP ($nn),Y`, opcode 0xD1 (R210, R137). -/
def execCmpZpIndY (z : Byte) (s : State) : Result :=
  .next (opCompare s.a (.zpIndY z) (.paged 5) s)

/-- `CMP ($nn)`, opcode 0xD2 (R210, R138). -/
def execCmpZpInd (z : Byte) (s : State) : Result :=
  .next (opCompare s.a (.zpInd z) (.fixed 5) s)

/-- `CMP $nn,X`, opcode 0xD5 (R210, R134). -/
def execCmpZpX (z : Byte) (s : State) : Result :=
  .next (opCompare s.a (.zpX z) (.fixed 4) s)

/-- `CMP $nnnn,Y`, opcode 0xD9 (R210, R141). -/
def execCmpAbsY (addr : Word) (s : State) : Result :=
  .next (opCompare s.a (.absY addr) (.paged 4) s)

/-- `CMP $nnnn,X`, opcode 0xDD (R210, R140). -/
def execCmpAbsX (addr : Word) (s : State) : Result :=
  .next (opCompare s.a (.absX addr) (.paged 4) s)

/-- `CPX #$nn`, opcode 0xE0 (R211, R132). -/
def execCpxImm (v : Byte) (s : State) : Result :=
  .next (opCompare s.x (.immediate v) (.fixed 2) s)

/-- `CPX $nn`, opcode 0xE4 (R211, R133). -/
def execCpxZp (z : Byte) (s : State) : Result :=
  .next (opCompare s.x (.zp z) (.fixed 3) s)

/-- `CPX $nnnn`, opcode 0xEC (R211, R139). -/
def execCpxAbs (addr : Word) (s : State) : Result :=
  .next (opCompare s.x (.abs addr) (.fixed 4) s)

/-- `CPY #$nn`, opcode 0xC0 (R212, R132). -/
def execCpyImm (v : Byte) (s : State) : Result :=
  .next (opCompare s.y (.immediate v) (.fixed 2) s)

/-- `CPY $nn`, opcode 0xC4 (R212, R133). -/
def execCpyZp (z : Byte) (s : State) : Result :=
  .next (opCompare s.y (.zp z) (.fixed 3) s)

/-- `CPY $nnnn`, opcode 0xCC (R212, R139). -/
def execCpyAbs (addr : Word) (s : State) : Result :=
  .next (opCompare s.y (.abs addr) (.fixed 4) s)

/-- A read-modify-write that sets N and Z from the byte written: `v <- f(ReadM()); WriteM(v); SetNZ(v)`
(R147, R213, R214). -/
def opModify (f : Byte → Byte) (m : Mode) (k : Cost) (s : State) : State :=
  let o := resolve m s
  let r := readM o.1 o.2
  ((writeM o.1 (f r.1) r.2).setNZ (f r.1)).charge k o.1.crossed

/-- `INC A`, opcode 0x1A (R213, R131). -/
def execIncAcc (s : State) : Result :=
  .next (opModify (· + 1) .accumulator (.fixed 2) s)

/-- `INC $nn`, opcode 0xE6 (R213, R133). -/
def execIncZp (z : Byte) (s : State) : Result :=
  .next (opModify (· + 1) (.zp z) (.fixed 5) s)

/-- `INC $nnnn`, opcode 0xEE (R213, R139). -/
def execIncAbs (addr : Word) (s : State) : Result :=
  .next (opModify (· + 1) (.abs addr) (.fixed 6) s)

/-- `INC $nn,X`, opcode 0xF6 (R213, R134). -/
def execIncZpX (z : Byte) (s : State) : Result :=
  .next (opModify (· + 1) (.zpX z) (.fixed 6) s)

/-- `INC $nnnn,X`, opcode 0xFE (R213, R140). -/
def execIncAbsX (addr : Word) (s : State) : Result :=
  .next (opModify (· + 1) (.absX addr) (.fixed 7) s)

/-- `DEC A`, opcode 0x3A (R214, R131). -/
def execDecAcc (s : State) : Result :=
  .next (opModify (· - 1) .accumulator (.fixed 2) s)

/-- `DEC $nn`, opcode 0xC6 (R214, R133). -/
def execDecZp (z : Byte) (s : State) : Result :=
  .next (opModify (· - 1) (.zp z) (.fixed 5) s)

/-- `DEC $nnnn`, opcode 0xCE (R214, R139). -/
def execDecAbs (addr : Word) (s : State) : Result :=
  .next (opModify (· - 1) (.abs addr) (.fixed 6) s)

/-- `DEC $nn,X`, opcode 0xD6 (R214, R134). -/
def execDecZpX (z : Byte) (s : State) : Result :=
  .next (opModify (· - 1) (.zpX z) (.fixed 6) s)

/-- `DEC $nnnn,X`, opcode 0xDE (R214, R140). -/
def execDecAbsX (addr : Word) (s : State) : Result :=
  .next (opModify (· - 1) (.absX addr) (.fixed 7) s)

/-- `INX`, opcode 0xE8 (R215). -/
def execInx (s : State) : Result :=
  .next (((s.setX (s.x + 1)).setNZ (s.x + 1)).charge (.fixed 2) false)

/-- `INY`, opcode 0xC8 (R216). -/
def execIny (s : State) : Result :=
  .next (((s.setY (s.y + 1)).setNZ (s.y + 1)).charge (.fixed 2) false)

/-- `DEX`, opcode 0xCA (R217). -/
def execDex (s : State) : Result :=
  .next (((s.setX (s.x - 1)).setNZ (s.x - 1)).charge (.fixed 2) false)

/-- `DEY`, opcode 0x88 (R218). -/
def execDey (s : State) : Result :=
  .next (((s.setY (s.y - 1)).setNZ (s.y - 1)).charge (.fixed 2) false)

end Sys2Proof.Machine
end

