-- ==== Sys2Proof/Machine/Control.lean ====
section
/-! DEFINITION. Branches, jumps, subroutines, BRK and RTI (44_control, R280 to R297). One definition per row of the
opcode table, over the shared operation of its instruction. -/

namespace Sys2Proof.Machine

/-- Takes a branch to PC + sext_8(d) when `taken`; PC stands after the whole branch (R144, R145). The
count is `base`, plus 1 if taken, plus 1 more if taken to another page (R432). -/
def State.branchIf (s : State) (taken : Bool) (d : Byte) (base : Nat) : State :=
  let target := s.pc + sext16 d
  if taken then
    (s.setPC target).setCycles (base + 1 + if pageCrossed s.pc target then 1 else 0)
  else s.setCycles base

/-- The conditional branches (R280): the displacement is fetched, then tested by `cond`. -/
def opBranch (cond : Bool) (d : Byte) (s : State) : State := s.operandFetch.branchIf cond d 2

/-- `BPL rel`, opcode 0x10 (R281, R144). -/
def execBpl (d : Byte) (s : State) : Result :=
  .next (opBranch (!s.flagN) d s)

/-- `BMI rel`, opcode 0x30 (R282, R144). -/
def execBmi (d : Byte) (s : State) : Result :=
  .next (opBranch s.flagN d s)

/-- `BVC rel`, opcode 0x50 (R283, R144). -/
def execBvc (d : Byte) (s : State) : Result :=
  .next (opBranch (!s.flagV) d s)

/-- `BVS rel`, opcode 0x70 (R284, R144). -/
def execBvs (d : Byte) (s : State) : Result :=
  .next (opBranch s.flagV d s)

/-- `BCC rel`, opcode 0x90 (R285, R144). -/
def execBcc (d : Byte) (s : State) : Result :=
  .next (opBranch (!s.flagC) d s)

/-- `BCS rel`, opcode 0xB0 (R286, R144). -/
def execBcs (d : Byte) (s : State) : Result :=
  .next (opBranch s.flagC d s)

/-- `BNE rel`, opcode 0xD0 (R287, R144). -/
def execBne (d : Byte) (s : State) : Result :=
  .next (opBranch (!s.flagZ) d s)

/-- `BEQ rel`, opcode 0xF0 (R288, R144). -/
def execBeq (d : Byte) (s : State) : Result :=
  .next (opBranch s.flagZ d s)

/-- BRA: always taken, 3 cycles, plus 1 to another page (R289, R432). -/
def opBra (d : Byte) (s : State) : State := s.operandFetch.branchIf true d 2

/-- `BRA rel`, opcode 0x80 (R289, R144). -/
def execBra (d : Byte) (s : State) : Result :=
  .next (opBra d s)

/-- BBRn and BBSn: the zero-page byte is read before the displacement is fetched; the branch is taken if
its bit `n` is `b` (R145, R290, R291). -/
def opBitBranch (n : Fin 8) (b : Bool) (z d : Byte) (s : State) : State :=
  let r := s.operandFetch.read8 (zext16 z)
  r.2.operandFetch.branchIf (r.1.getLsbD n == b) d 5

/-- `BBR0 $nn,rel`, opcode 0x0F (R290, R145). -/
def execBbr0 (z : Byte) (d : Byte) (s : State) : Result :=
  .next (opBitBranch 0 false z d s)

/-- `BBR1 $nn,rel`, opcode 0x1F (R290, R145). -/
def execBbr1 (z : Byte) (d : Byte) (s : State) : Result :=
  .next (opBitBranch 1 false z d s)

/-- `BBR2 $nn,rel`, opcode 0x2F (R290, R145). -/
def execBbr2 (z : Byte) (d : Byte) (s : State) : Result :=
  .next (opBitBranch 2 false z d s)

/-- `BBR3 $nn,rel`, opcode 0x3F (R290, R145). -/
def execBbr3 (z : Byte) (d : Byte) (s : State) : Result :=
  .next (opBitBranch 3 false z d s)

/-- `BBR4 $nn,rel`, opcode 0x4F (R290, R145). -/
def execBbr4 (z : Byte) (d : Byte) (s : State) : Result :=
  .next (opBitBranch 4 false z d s)

/-- `BBR5 $nn,rel`, opcode 0x5F (R290, R145). -/
def execBbr5 (z : Byte) (d : Byte) (s : State) : Result :=
  .next (opBitBranch 5 false z d s)

/-- `BBR6 $nn,rel`, opcode 0x6F (R290, R145). -/
def execBbr6 (z : Byte) (d : Byte) (s : State) : Result :=
  .next (opBitBranch 6 false z d s)

/-- `BBR7 $nn,rel`, opcode 0x7F (R290, R145). -/
def execBbr7 (z : Byte) (d : Byte) (s : State) : Result :=
  .next (opBitBranch 7 false z d s)

/-- `BBS0 $nn,rel`, opcode 0x8F (R291, R145). -/
def execBbs0 (z : Byte) (d : Byte) (s : State) : Result :=
  .next (opBitBranch 0 true z d s)

/-- `BBS1 $nn,rel`, opcode 0x9F (R291, R145). -/
def execBbs1 (z : Byte) (d : Byte) (s : State) : Result :=
  .next (opBitBranch 1 true z d s)

/-- `BBS2 $nn,rel`, opcode 0xAF (R291, R145). -/
def execBbs2 (z : Byte) (d : Byte) (s : State) : Result :=
  .next (opBitBranch 2 true z d s)

/-- `BBS3 $nn,rel`, opcode 0xBF (R291, R145). -/
def execBbs3 (z : Byte) (d : Byte) (s : State) : Result :=
  .next (opBitBranch 3 true z d s)

/-- `BBS4 $nn,rel`, opcode 0xCF (R291, R145). -/
def execBbs4 (z : Byte) (d : Byte) (s : State) : Result :=
  .next (opBitBranch 4 true z d s)

/-- `BBS5 $nn,rel`, opcode 0xDF (R291, R145). -/
def execBbs5 (z : Byte) (d : Byte) (s : State) : Result :=
  .next (opBitBranch 5 true z d s)

/-- `BBS6 $nn,rel`, opcode 0xEF (R291, R145). -/
def execBbs6 (z : Byte) (d : Byte) (s : State) : Result :=
  .next (opBitBranch 6 true z d s)

/-- `BBS7 $nn,rel`, opcode 0xFF (R291, R145). -/
def execBbs7 (z : Byte) (d : Byte) (s : State) : Result :=
  .next (opBitBranch 7 true z d s)

/-- JMP: `PC <- ea` (R292, R293). -/
def opJmp (m : Mode) (k : Cost) (s : State) : State :=
  let o := resolve m s
  (o.2.setPC o.1.target).charge k o.1.crossed

/-- `JMP $nnnn`, opcode 0x4C (R292, R139). -/
def execJmpAbs (addr : Word) (s : State) : Result :=
  .next (opJmp (.abs addr) (.fixed 3) s)

/-- `JMP ($nnnn)`, opcode 0x6C (R293, R142). -/
def execJmpAbsInd (addr : Word) (s : State) : Result :=
  .next (opJmp (.absInd addr) (.fixed 6) s)

/-- `JMP ($nnnn,X)`, opcode 0x7C (R293, R143). -/
def execJmpAbsXInd (addr : Word) (s : State) : Result :=
  .next (opJmp (.absXInd addr) (.fixed 6) s)

/-- The state of a JSR after its low operand byte is fetched and the address of its high operand byte is
pushed (R294, R86). -/
def State.jsrPushed (s : State) : State := s.operandFetch.push16 s.operandFetch.pc

/-- JSR (R294): the high operand byte is fetched after the pushes. -/
def opJsr (addr : Word) (k : Cost) (s : State) : State :=
  (s.jsrPushed.operandFetch.setPC addr).charge k false

/-- `JSR $nnnn`, opcode 0x20 (R294, R139). -/
def execJsr (addr : Word) (s : State) : Result :=
  .next (opJsr addr (.fixed 6) s)

/-- RTS: `PC <- pulled word + 1` (R295). -/
def opRts (k : Cost) (s : State) : State :=
  let r := s.pull16
  (r.2.setPC (r.1 + 1)).charge k false

/-- `RTS`, opcode 0x60 (R295). -/
def execRts (s : State) : Result :=
  .next (opRts (.fixed 6) s)

/-- BRK: the signature byte is fetched and discarded, then the exception is taken through the IRQ vector
with B set, whatever I is (R296, D9). -/
def opBrk (k : Cost) (s : State) : State := (s.operandFetch.enterVector .irq true).charge k false

/-- `BRK`, opcode 0x00 (R296). -/
def execBrk (_sig : Byte) (s : State) : Result :=
  .next (opBrk (.fixed 7) s)

/-- RTI: the return from an interrupt (R297). -/
def opRti (k : Cost) (s : State) : State := s.returnFromInterrupt.charge k false

/-- `RTI`, opcode 0x40 (R297). -/
def execRti (s : State) : Result :=
  .next (opRti (.fixed 6) s)

end Sys2Proof.Machine
end

