-- ==== Sys2Proof/Machine/LoadStore.lean ====
section
/-! DEFINITION. Loads, stores, transfers, pushes and pulls (41_load_store, R160 to R180). One definition per row of the
opcode table, over the shared operation of its instruction. -/

namespace Sys2Proof.Machine

/-- LDA: `v <- ReadM(); A <- v; SetNZ(v)` (R160). -/
def opLda (m : Mode) (k : Cost) (s : State) : State :=
  let o := resolve m s
  let r := readM o.1 o.2
  ((r.2.setA r.1).setNZ r.1).charge k o.1.crossed

/-- `LDA ($nn,X)`, opcode 0xA1 (R160, R136). -/
def execLdaZpXInd (z : Byte) (s : State) : Result :=
  .next (opLda (.zpXInd z) (.fixed 6) s)

/-- `LDA $nn`, opcode 0xA5 (R160, R133). -/
def execLdaZp (z : Byte) (s : State) : Result :=
  .next (opLda (.zp z) (.fixed 3) s)

/-- `LDA #$nn`, opcode 0xA9 (R160, R132). -/
def execLdaImm (v : Byte) (s : State) : Result :=
  .next (opLda (.immediate v) (.fixed 2) s)

/-- `LDA $nnnn`, opcode 0xAD (R160, R139). -/
def execLdaAbs (addr : Word) (s : State) : Result :=
  .next (opLda (.abs addr) (.fixed 4) s)

/-- `LDA ($nn),Y`, opcode 0xB1 (R160, R137). -/
def execLdaZpIndY (z : Byte) (s : State) : Result :=
  .next (opLda (.zpIndY z) (.paged 5) s)

/-- `LDA ($nn)`, opcode 0xB2 (R160, R138). -/
def execLdaZpInd (z : Byte) (s : State) : Result :=
  .next (opLda (.zpInd z) (.fixed 5) s)

/-- `LDA $nn,X`, opcode 0xB5 (R160, R134). -/
def execLdaZpX (z : Byte) (s : State) : Result :=
  .next (opLda (.zpX z) (.fixed 4) s)

/-- `LDA $nnnn,Y`, opcode 0xB9 (R160, R141). -/
def execLdaAbsY (addr : Word) (s : State) : Result :=
  .next (opLda (.absY addr) (.paged 4) s)

/-- `LDA $nnnn,X`, opcode 0xBD (R160, R140). -/
def execLdaAbsX (addr : Word) (s : State) : Result :=
  .next (opLda (.absX addr) (.paged 4) s)

/-- LDX: `v <- ReadM(); X <- v; SetNZ(v)` (R161). -/
def opLdx (m : Mode) (k : Cost) (s : State) : State :=
  let o := resolve m s
  let r := readM o.1 o.2
  ((r.2.setX r.1).setNZ r.1).charge k o.1.crossed

/-- `LDX #$nn`, opcode 0xA2 (R161, R132). -/
def execLdxImm (v : Byte) (s : State) : Result :=
  .next (opLdx (.immediate v) (.fixed 2) s)

/-- `LDX $nn`, opcode 0xA6 (R161, R133). -/
def execLdxZp (z : Byte) (s : State) : Result :=
  .next (opLdx (.zp z) (.fixed 3) s)

/-- `LDX $nnnn`, opcode 0xAE (R161, R139). -/
def execLdxAbs (addr : Word) (s : State) : Result :=
  .next (opLdx (.abs addr) (.fixed 4) s)

/-- `LDX $nn,Y`, opcode 0xB6 (R161, R135). -/
def execLdxZpY (z : Byte) (s : State) : Result :=
  .next (opLdx (.zpY z) (.fixed 4) s)

/-- `LDX $nnnn,Y`, opcode 0xBE (R161, R141). -/
def execLdxAbsY (addr : Word) (s : State) : Result :=
  .next (opLdx (.absY addr) (.paged 4) s)

/-- LDY: `v <- ReadM(); Y <- v; SetNZ(v)` (R162). -/
def opLdy (m : Mode) (k : Cost) (s : State) : State :=
  let o := resolve m s
  let r := readM o.1 o.2
  ((r.2.setY r.1).setNZ r.1).charge k o.1.crossed

/-- `LDY #$nn`, opcode 0xA0 (R162, R132). -/
def execLdyImm (v : Byte) (s : State) : Result :=
  .next (opLdy (.immediate v) (.fixed 2) s)

/-- `LDY $nn`, opcode 0xA4 (R162, R133). -/
def execLdyZp (z : Byte) (s : State) : Result :=
  .next (opLdy (.zp z) (.fixed 3) s)

/-- `LDY $nnnn`, opcode 0xAC (R162, R139). -/
def execLdyAbs (addr : Word) (s : State) : Result :=
  .next (opLdy (.abs addr) (.fixed 4) s)

/-- `LDY $nn,X`, opcode 0xB4 (R162, R134). -/
def execLdyZpX (z : Byte) (s : State) : Result :=
  .next (opLdy (.zpX z) (.fixed 4) s)

/-- `LDY $nnnn,X`, opcode 0xBC (R162, R140). -/
def execLdyAbsX (addr : Word) (s : State) : Result :=
  .next (opLdy (.absX addr) (.paged 4) s)

/-- A store: `WriteM(v)`, with no read of ea (R147, R163 to R166). -/
def opStore (m : Mode) (v : Byte) (k : Cost) (s : State) : State :=
  let o := resolve m s
  (writeM o.1 v o.2).charge k o.1.crossed

/-- `STA ($nn,X)`, opcode 0x81 (R163, R136). -/
def execStaZpXInd (z : Byte) (s : State) : Result :=
  .next (opStore (.zpXInd z) s.a (.fixed 6) s)

/-- `STA $nn`, opcode 0x85 (R163, R133). -/
def execStaZp (z : Byte) (s : State) : Result :=
  .next (opStore (.zp z) s.a (.fixed 3) s)

/-- `STA $nnnn`, opcode 0x8D (R163, R139). -/
def execStaAbs (addr : Word) (s : State) : Result :=
  .next (opStore (.abs addr) s.a (.fixed 4) s)

/-- `STA ($nn),Y`, opcode 0x91 (R163, R137). -/
def execStaZpIndY (z : Byte) (s : State) : Result :=
  .next (opStore (.zpIndY z) s.a (.fixed 6) s)

/-- `STA ($nn)`, opcode 0x92 (R163, R138). -/
def execStaZpInd (z : Byte) (s : State) : Result :=
  .next (opStore (.zpInd z) s.a (.fixed 5) s)

/-- `STA $nn,X`, opcode 0x95 (R163, R134). -/
def execStaZpX (z : Byte) (s : State) : Result :=
  .next (opStore (.zpX z) s.a (.fixed 4) s)

/-- `STA $nnnn,Y`, opcode 0x99 (R163, R141). -/
def execStaAbsY (addr : Word) (s : State) : Result :=
  .next (opStore (.absY addr) s.a (.fixed 5) s)

/-- `STA $nnnn,X`, opcode 0x9D (R163, R140). -/
def execStaAbsX (addr : Word) (s : State) : Result :=
  .next (opStore (.absX addr) s.a (.fixed 5) s)

/-- `STX $nn`, opcode 0x86 (R164, R133). -/
def execStxZp (z : Byte) (s : State) : Result :=
  .next (opStore (.zp z) s.x (.fixed 3) s)

/-- `STX $nnnn`, opcode 0x8E (R164, R139). -/
def execStxAbs (addr : Word) (s : State) : Result :=
  .next (opStore (.abs addr) s.x (.fixed 4) s)

/-- `STX $nn,Y`, opcode 0x96 (R164, R135). -/
def execStxZpY (z : Byte) (s : State) : Result :=
  .next (opStore (.zpY z) s.x (.fixed 4) s)

/-- `STY $nn`, opcode 0x84 (R165, R133). -/
def execStyZp (z : Byte) (s : State) : Result :=
  .next (opStore (.zp z) s.y (.fixed 3) s)

/-- `STY $nnnn`, opcode 0x8C (R165, R139). -/
def execStyAbs (addr : Word) (s : State) : Result :=
  .next (opStore (.abs addr) s.y (.fixed 4) s)

/-- `STY $nn,X`, opcode 0x94 (R165, R134). -/
def execStyZpX (z : Byte) (s : State) : Result :=
  .next (opStore (.zpX z) s.y (.fixed 4) s)

/-- `STZ $nn`, opcode 0x64 (R166, R133). -/
def execStzZp (z : Byte) (s : State) : Result :=
  .next (opStore (.zp z) 0x00 (.fixed 3) s)

/-- `STZ $nn,X`, opcode 0x74 (R166, R134). -/
def execStzZpX (z : Byte) (s : State) : Result :=
  .next (opStore (.zpX z) 0x00 (.fixed 4) s)

/-- `STZ $nnnn`, opcode 0x9C (R166, R139). -/
def execStzAbs (addr : Word) (s : State) : Result :=
  .next (opStore (.abs addr) 0x00 (.fixed 4) s)

/-- `STZ $nnnn,X`, opcode 0x9E (R166, R140). -/
def execStzAbsX (addr : Word) (s : State) : Result :=
  .next (opStore (.absX addr) 0x00 (.fixed 5) s)

/-- `TAX`, opcode 0xAA (R167). -/
def execTax (s : State) : Result :=
  .next (((s.setX s.a).setNZ s.a).charge (.fixed 2) false)

/-- `TAY`, opcode 0xA8 (R168). -/
def execTay (s : State) : Result :=
  .next (((s.setY s.a).setNZ s.a).charge (.fixed 2) false)

/-- `TXA`, opcode 0x8A (R169). -/
def execTxa (s : State) : Result :=
  .next (((s.setA s.x).setNZ s.x).charge (.fixed 2) false)

/-- `TYA`, opcode 0x98 (R170). -/
def execTya (s : State) : Result :=
  .next (((s.setA s.y).setNZ s.y).charge (.fixed 2) false)

/-- `TSX`, opcode 0xBA (R171). -/
def execTsx (s : State) : Result :=
  .next (((s.setX s.sp).setNZ s.sp).charge (.fixed 2) false)

/-- `TXS`, opcode 0x9A (R172). -/
def execTxs (s : State) : Result :=
  .next ((s.setSP s.x).charge (.fixed 2) false)

/-- `PHA`, opcode 0x48 (R173). -/
def execPha (s : State) : Result :=
  .next ((s.push8 s.a).charge (.fixed 3) false)

/-- `PHP`, opcode 0x08 (R174). -/
def execPhp (s : State) : Result :=
  .next ((s.push8 (s.pByte true)).charge (.fixed 3) false)

/-- `PHX`, opcode 0xDA (R175). -/
def execPhx (s : State) : Result :=
  .next ((s.push8 s.x).charge (.fixed 3) false)

/-- `PHY`, opcode 0x5A (R176). -/
def execPhy (s : State) : Result :=
  .next ((s.push8 s.y).charge (.fixed 3) false)

/-- `PLA`, opcode 0x68 (R177). -/
def execPla (s : State) : Result :=
  .next (((s.pull8.2.setA s.pull8.1).setNZ s.pull8.1).charge (.fixed 4) false)

/-- `PLX`, opcode 0xFA (R179). -/
def execPlx (s : State) : Result :=
  .next (((s.pull8.2.setX s.pull8.1).setNZ s.pull8.1).charge (.fixed 4) false)

/-- `PLY`, opcode 0x7A (R180). -/
def execPly (s : State) : Result :=
  .next (((s.pull8.2.setY s.pull8.1).setNZ s.pull8.1).charge (.fixed 4) false)

/-- `PLP`, opcode 0x28 (R178). -/
def execPlp (s : State) : Result :=
  .next ((s.pull8.2.setP s.pull8.1).charge (.fixed 4) false)

end Sys2Proof.Machine
end

