-- ==== Sys2Proof/Machine/Logic.lean ====
section
/-! DEFINITION. AND, ORA, EOR, BIT, TSB, TRB, the shifts and rotates, RMBn and SMBn (43_logic_bit, R240 to R251). One
definition per row of the opcode table, over the shared operation of its instruction. -/

namespace Sys2Proof.Machine

/-- AND, ORA, EOR: `A <- f(A, ReadM()); SetNZ(A)` (R240 to R242). -/
def opLogic (f : Byte → Byte → Byte) (m : Mode) (k : Cost) (s : State) : State :=
  let o := resolve m s
  let r := readM o.1 o.2
  ((r.2.setA (f s.a r.1)).setNZ (f s.a r.1)).charge k o.1.crossed

/-- `AND ($nn,X)`, opcode 0x21 (R240, R136). -/
def execAndZpXInd (z : Byte) (s : State) : Result :=
  .next (opLogic (· &&& ·) (.zpXInd z) (.fixed 6) s)

/-- `AND $nn`, opcode 0x25 (R240, R133). -/
def execAndZp (z : Byte) (s : State) : Result :=
  .next (opLogic (· &&& ·) (.zp z) (.fixed 3) s)

/-- `AND #$nn`, opcode 0x29 (R240, R132). -/
def execAndImm (v : Byte) (s : State) : Result :=
  .next (opLogic (· &&& ·) (.immediate v) (.fixed 2) s)

/-- `AND $nnnn`, opcode 0x2D (R240, R139). -/
def execAndAbs (addr : Word) (s : State) : Result :=
  .next (opLogic (· &&& ·) (.abs addr) (.fixed 4) s)

/-- `AND ($nn),Y`, opcode 0x31 (R240, R137). -/
def execAndZpIndY (z : Byte) (s : State) : Result :=
  .next (opLogic (· &&& ·) (.zpIndY z) (.paged 5) s)

/-- `AND ($nn)`, opcode 0x32 (R240, R138). -/
def execAndZpInd (z : Byte) (s : State) : Result :=
  .next (opLogic (· &&& ·) (.zpInd z) (.fixed 5) s)

/-- `AND $nn,X`, opcode 0x35 (R240, R134). -/
def execAndZpX (z : Byte) (s : State) : Result :=
  .next (opLogic (· &&& ·) (.zpX z) (.fixed 4) s)

/-- `AND $nnnn,Y`, opcode 0x39 (R240, R141). -/
def execAndAbsY (addr : Word) (s : State) : Result :=
  .next (opLogic (· &&& ·) (.absY addr) (.paged 4) s)

/-- `AND $nnnn,X`, opcode 0x3D (R240, R140). -/
def execAndAbsX (addr : Word) (s : State) : Result :=
  .next (opLogic (· &&& ·) (.absX addr) (.paged 4) s)

/-- `ORA ($nn,X)`, opcode 0x01 (R241, R136). -/
def execOraZpXInd (z : Byte) (s : State) : Result :=
  .next (opLogic (· ||| ·) (.zpXInd z) (.fixed 6) s)

/-- `ORA $nn`, opcode 0x05 (R241, R133). -/
def execOraZp (z : Byte) (s : State) : Result :=
  .next (opLogic (· ||| ·) (.zp z) (.fixed 3) s)

/-- `ORA #$nn`, opcode 0x09 (R241, R132). -/
def execOraImm (v : Byte) (s : State) : Result :=
  .next (opLogic (· ||| ·) (.immediate v) (.fixed 2) s)

/-- `ORA $nnnn`, opcode 0x0D (R241, R139). -/
def execOraAbs (addr : Word) (s : State) : Result :=
  .next (opLogic (· ||| ·) (.abs addr) (.fixed 4) s)

/-- `ORA ($nn),Y`, opcode 0x11 (R241, R137). -/
def execOraZpIndY (z : Byte) (s : State) : Result :=
  .next (opLogic (· ||| ·) (.zpIndY z) (.paged 5) s)

/-- `ORA ($nn)`, opcode 0x12 (R241, R138). -/
def execOraZpInd (z : Byte) (s : State) : Result :=
  .next (opLogic (· ||| ·) (.zpInd z) (.fixed 5) s)

/-- `ORA $nn,X`, opcode 0x15 (R241, R134). -/
def execOraZpX (z : Byte) (s : State) : Result :=
  .next (opLogic (· ||| ·) (.zpX z) (.fixed 4) s)

/-- `ORA $nnnn,Y`, opcode 0x19 (R241, R141). -/
def execOraAbsY (addr : Word) (s : State) : Result :=
  .next (opLogic (· ||| ·) (.absY addr) (.paged 4) s)

/-- `ORA $nnnn,X`, opcode 0x1D (R241, R140). -/
def execOraAbsX (addr : Word) (s : State) : Result :=
  .next (opLogic (· ||| ·) (.absX addr) (.paged 4) s)

/-- `EOR ($nn,X)`, opcode 0x41 (R242, R136). -/
def execEorZpXInd (z : Byte) (s : State) : Result :=
  .next (opLogic (· ^^^ ·) (.zpXInd z) (.fixed 6) s)

/-- `EOR $nn`, opcode 0x45 (R242, R133). -/
def execEorZp (z : Byte) (s : State) : Result :=
  .next (opLogic (· ^^^ ·) (.zp z) (.fixed 3) s)

/-- `EOR #$nn`, opcode 0x49 (R242, R132). -/
def execEorImm (v : Byte) (s : State) : Result :=
  .next (opLogic (· ^^^ ·) (.immediate v) (.fixed 2) s)

/-- `EOR $nnnn`, opcode 0x4D (R242, R139). -/
def execEorAbs (addr : Word) (s : State) : Result :=
  .next (opLogic (· ^^^ ·) (.abs addr) (.fixed 4) s)

/-- `EOR ($nn),Y`, opcode 0x51 (R242, R137). -/
def execEorZpIndY (z : Byte) (s : State) : Result :=
  .next (opLogic (· ^^^ ·) (.zpIndY z) (.paged 5) s)

/-- `EOR ($nn)`, opcode 0x52 (R242, R138). -/
def execEorZpInd (z : Byte) (s : State) : Result :=
  .next (opLogic (· ^^^ ·) (.zpInd z) (.fixed 5) s)

/-- `EOR $nn,X`, opcode 0x55 (R242, R134). -/
def execEorZpX (z : Byte) (s : State) : Result :=
  .next (opLogic (· ^^^ ·) (.zpX z) (.fixed 4) s)

/-- `EOR $nnnn,Y`, opcode 0x59 (R242, R141). -/
def execEorAbsY (addr : Word) (s : State) : Result :=
  .next (opLogic (· ^^^ ·) (.absY addr) (.paged 4) s)

/-- `EOR $nnnn,X`, opcode 0x5D (R242, R140). -/
def execEorAbsX (addr : Word) (s : State) : Result :=
  .next (opLogic (· ^^^ ·) (.absX addr) (.paged 4) s)

/-- BIT's flags: Z from A & M; N and V from M, but not for the immediate form (R243). -/
def State.bitTest (s : State) (v : Byte) (immediate : Bool) : State :=
  let t := s.setZ ((s.a &&& v) == 0x00)
  if immediate then t else { t with flagN := v.getLsbD 7, flagV := v.getLsbD 6 }

/-- BIT (R243). -/
def opBit (m : Mode) (k : Cost) (s : State) : State :=
  let o := resolve m s
  let r := readM o.1 o.2
  (r.2.bitTest r.1 m.isImmediate).charge k o.1.crossed

/-- `BIT $nn`, opcode 0x24 (R243, R133). -/
def execBitZp (z : Byte) (s : State) : Result :=
  .next (opBit (.zp z) (.fixed 3) s)

/-- `BIT $nnnn`, opcode 0x2C (R243, R139). -/
def execBitAbs (addr : Word) (s : State) : Result :=
  .next (opBit (.abs addr) (.fixed 4) s)

/-- `BIT $nn,X`, opcode 0x34 (R243, R134). -/
def execBitZpX (z : Byte) (s : State) : Result :=
  .next (opBit (.zpX z) (.fixed 4) s)

/-- `BIT $nnnn,X`, opcode 0x3C (R243, R140). -/
def execBitAbsX (addr : Word) (s : State) : Result :=
  .next (opBit (.absX addr) (.paged 4) s)

/-- `BIT #$nn`, opcode 0x89 (R243, R132). -/
def execBitImm (v : Byte) (s : State) : Result :=
  .next (opBit (.immediate v) (.fixed 2) s)

/-- TSB and TRB: Z from A & M, then `WriteM(f(A, M))` (R244, R245). -/
def opTestModify (f : Byte → Byte → Byte) (m : Mode) (k : Cost) (s : State) : State :=
  let o := resolve m s
  let r := readM o.1 o.2
  (writeM o.1 (f s.a r.1) (r.2.setZ ((s.a &&& r.1) == 0x00))).charge k o.1.crossed

/-- `TSB $nn`, opcode 0x04 (R244, R133). -/
def execTsbZp (z : Byte) (s : State) : Result :=
  .next (opTestModify (fun a v => v ||| a) (.zp z) (.fixed 5) s)

/-- `TSB $nnnn`, opcode 0x0C (R244, R139). -/
def execTsbAbs (addr : Word) (s : State) : Result :=
  .next (opTestModify (fun a v => v ||| a) (.abs addr) (.fixed 6) s)

/-- `TRB $nn`, opcode 0x14 (R245, R133). -/
def execTrbZp (z : Byte) (s : State) : Result :=
  .next (opTestModify (fun a v => v &&& (a ^^^ 0xFF)) (.zp z) (.fixed 5) s)

/-- `TRB $nnnn`, opcode 0x1C (R245, R139). -/
def execTrbAbs (addr : Word) (s : State) : Result :=
  .next (opTestModify (fun a v => v &&& (a ^^^ 0xFF)) (.abs addr) (.fixed 6) s)

/-- A shift or rotate: C from the bit that leaves, `WriteM(r); SetNZ(r)` (R246 to R249). -/
def opShift (f : Byte → ShiftOut) (m : Mode) (k : Cost) (s : State) : State :=
  let o := resolve m s
  let r := readM o.1 o.2
  ((writeM o.1 (f r.1).r (r.2.setC (f r.1).c)).setNZ (f r.1).r).charge k o.1.crossed

/-- `ASL $nn`, opcode 0x06 (R246, R133). -/
def execAslZp (z : Byte) (s : State) : Result :=
  .next (opShift shiftAsl (.zp z) (.fixed 5) s)

/-- `ASL A`, opcode 0x0A (R246, R131). -/
def execAslAcc (s : State) : Result :=
  .next (opShift shiftAsl .accumulator (.fixed 2) s)

/-- `ASL $nnnn`, opcode 0x0E (R246, R139). -/
def execAslAbs (addr : Word) (s : State) : Result :=
  .next (opShift shiftAsl (.abs addr) (.fixed 6) s)

/-- `ASL $nn,X`, opcode 0x16 (R246, R134). -/
def execAslZpX (z : Byte) (s : State) : Result :=
  .next (opShift shiftAsl (.zpX z) (.fixed 6) s)

/-- `ASL $nnnn,X`, opcode 0x1E (R246, R140). -/
def execAslAbsX (addr : Word) (s : State) : Result :=
  .next (opShift shiftAsl (.absX addr) (.paged 6) s)

/-- `LSR $nn`, opcode 0x46 (R247, R133). -/
def execLsrZp (z : Byte) (s : State) : Result :=
  .next (opShift shiftLsr (.zp z) (.fixed 5) s)

/-- `LSR A`, opcode 0x4A (R247, R131). -/
def execLsrAcc (s : State) : Result :=
  .next (opShift shiftLsr .accumulator (.fixed 2) s)

/-- `LSR $nnnn`, opcode 0x4E (R247, R139). -/
def execLsrAbs (addr : Word) (s : State) : Result :=
  .next (opShift shiftLsr (.abs addr) (.fixed 6) s)

/-- `LSR $nn,X`, opcode 0x56 (R247, R134). -/
def execLsrZpX (z : Byte) (s : State) : Result :=
  .next (opShift shiftLsr (.zpX z) (.fixed 6) s)

/-- `LSR $nnnn,X`, opcode 0x5E (R247, R140). -/
def execLsrAbsX (addr : Word) (s : State) : Result :=
  .next (opShift shiftLsr (.absX addr) (.paged 6) s)

/-- `ROL $nn`, opcode 0x26 (R248, R133). -/
def execRolZp (z : Byte) (s : State) : Result :=
  .next (opShift (shiftRol s.flagC) (.zp z) (.fixed 5) s)

/-- `ROL A`, opcode 0x2A (R248, R131). -/
def execRolAcc (s : State) : Result :=
  .next (opShift (shiftRol s.flagC) .accumulator (.fixed 2) s)

/-- `ROL $nnnn`, opcode 0x2E (R248, R139). -/
def execRolAbs (addr : Word) (s : State) : Result :=
  .next (opShift (shiftRol s.flagC) (.abs addr) (.fixed 6) s)

/-- `ROL $nn,X`, opcode 0x36 (R248, R134). -/
def execRolZpX (z : Byte) (s : State) : Result :=
  .next (opShift (shiftRol s.flagC) (.zpX z) (.fixed 6) s)

/-- `ROL $nnnn,X`, opcode 0x3E (R248, R140). -/
def execRolAbsX (addr : Word) (s : State) : Result :=
  .next (opShift (shiftRol s.flagC) (.absX addr) (.paged 6) s)

/-- `ROR $nn`, opcode 0x66 (R249, R133). -/
def execRorZp (z : Byte) (s : State) : Result :=
  .next (opShift (shiftRor s.flagC) (.zp z) (.fixed 5) s)

/-- `ROR A`, opcode 0x6A (R249, R131). -/
def execRorAcc (s : State) : Result :=
  .next (opShift (shiftRor s.flagC) .accumulator (.fixed 2) s)

/-- `ROR $nnnn`, opcode 0x6E (R249, R139). -/
def execRorAbs (addr : Word) (s : State) : Result :=
  .next (opShift (shiftRor s.flagC) (.abs addr) (.fixed 6) s)

/-- `ROR $nn,X`, opcode 0x76 (R249, R134). -/
def execRorZpX (z : Byte) (s : State) : Result :=
  .next (opShift (shiftRor s.flagC) (.zpX z) (.fixed 6) s)

/-- `ROR $nnnn,X`, opcode 0x7E (R249, R140). -/
def execRorAbsX (addr : Word) (s : State) : Result :=
  .next (opShift (shiftRor s.flagC) (.absX addr) (.paged 6) s)

/-- RMBn and SMBn: `M <- ReadM(); WriteM(f(M))`, no flag (R250, R251). -/
def opBitModify (f : Byte → Byte) (m : Mode) (k : Cost) (s : State) : State :=
  let o := resolve m s
  let r := readM o.1 o.2
  (writeM o.1 (f r.1) r.2).charge k o.1.crossed

/-- `RMB0 $nn`, opcode 0x07 (R250, R133). -/
def execRmb0 (z : Byte) (s : State) : Result :=
  .next (opBitModify (· &&& ~~~(bitMask 0)) (.zp z) (.fixed 5) s)

/-- `RMB1 $nn`, opcode 0x17 (R250, R133). -/
def execRmb1 (z : Byte) (s : State) : Result :=
  .next (opBitModify (· &&& ~~~(bitMask 1)) (.zp z) (.fixed 5) s)

/-- `RMB2 $nn`, opcode 0x27 (R250, R133). -/
def execRmb2 (z : Byte) (s : State) : Result :=
  .next (opBitModify (· &&& ~~~(bitMask 2)) (.zp z) (.fixed 5) s)

/-- `RMB3 $nn`, opcode 0x37 (R250, R133). -/
def execRmb3 (z : Byte) (s : State) : Result :=
  .next (opBitModify (· &&& ~~~(bitMask 3)) (.zp z) (.fixed 5) s)

/-- `RMB4 $nn`, opcode 0x47 (R250, R133). -/
def execRmb4 (z : Byte) (s : State) : Result :=
  .next (opBitModify (· &&& ~~~(bitMask 4)) (.zp z) (.fixed 5) s)

/-- `RMB5 $nn`, opcode 0x57 (R250, R133). -/
def execRmb5 (z : Byte) (s : State) : Result :=
  .next (opBitModify (· &&& ~~~(bitMask 5)) (.zp z) (.fixed 5) s)

/-- `RMB6 $nn`, opcode 0x67 (R250, R133). -/
def execRmb6 (z : Byte) (s : State) : Result :=
  .next (opBitModify (· &&& ~~~(bitMask 6)) (.zp z) (.fixed 5) s)

/-- `RMB7 $nn`, opcode 0x77 (R250, R133). -/
def execRmb7 (z : Byte) (s : State) : Result :=
  .next (opBitModify (· &&& ~~~(bitMask 7)) (.zp z) (.fixed 5) s)

/-- `SMB0 $nn`, opcode 0x87 (R251, R133). -/
def execSmb0 (z : Byte) (s : State) : Result :=
  .next (opBitModify (· ||| bitMask 0) (.zp z) (.fixed 5) s)

/-- `SMB1 $nn`, opcode 0x97 (R251, R133). -/
def execSmb1 (z : Byte) (s : State) : Result :=
  .next (opBitModify (· ||| bitMask 1) (.zp z) (.fixed 5) s)

/-- `SMB2 $nn`, opcode 0xA7 (R251, R133). -/
def execSmb2 (z : Byte) (s : State) : Result :=
  .next (opBitModify (· ||| bitMask 2) (.zp z) (.fixed 5) s)

/-- `SMB3 $nn`, opcode 0xB7 (R251, R133). -/
def execSmb3 (z : Byte) (s : State) : Result :=
  .next (opBitModify (· ||| bitMask 3) (.zp z) (.fixed 5) s)

/-- `SMB4 $nn`, opcode 0xC7 (R251, R133). -/
def execSmb4 (z : Byte) (s : State) : Result :=
  .next (opBitModify (· ||| bitMask 4) (.zp z) (.fixed 5) s)

/-- `SMB5 $nn`, opcode 0xD7 (R251, R133). -/
def execSmb5 (z : Byte) (s : State) : Result :=
  .next (opBitModify (· ||| bitMask 5) (.zp z) (.fixed 5) s)

/-- `SMB6 $nn`, opcode 0xE7 (R251, R133). -/
def execSmb6 (z : Byte) (s : State) : Result :=
  .next (opBitModify (· ||| bitMask 6) (.zp z) (.fixed 5) s)

/-- `SMB7 $nn`, opcode 0xF7 (R251, R133). -/
def execSmb7 (z : Byte) (s : State) : Result :=
  .next (opBitModify (· ||| bitMask 7) (.zp z) (.fixed 5) s)

end Sys2Proof.Machine
end

