-- ==== Sys2Proof/Machine/System.lean ====
section
/-! DEFINITION. Flag instructions, NOP, the 44 undefined opcodes, WAI and STP (45_system, R320 to R332). One definition
per row of the opcode table. -/

namespace Sys2Proof.Machine

/-- `CLC`, opcode 0x18 (R320). -/
def execClc (s : State) : Result :=
  .next ((s.setC false).charge (.fixed 2) false)

/-- `SEC`, opcode 0x38 (R321). -/
def execSec (s : State) : Result :=
  .next ((s.setC true).charge (.fixed 2) false)

/-- `CLI`, opcode 0x58 (R322). -/
def execCli (s : State) : Result :=
  .next ((s.setI false).charge (.fixed 2) false)

/-- `SEI`, opcode 0x78 (R323). -/
def execSei (s : State) : Result :=
  .next ((s.setI true).charge (.fixed 2) false)

/-- `CLD`, opcode 0xD8 (R324). -/
def execCld (s : State) : Result :=
  .next ((s.setD false).charge (.fixed 2) false)

/-- `SED`, opcode 0xF8 (R325). -/
def execSed (s : State) : Result :=
  .next ((s.setD true).charge (.fixed 2) false)

/-- `CLV`, opcode 0xB8 (R326). -/
def execClv (s : State) : Result :=
  .next ((s.setV false).charge (.fixed 2) false)

/-- `NOP`, opcode 0xEA (R327). -/
def execNop (s : State) : Result :=
  .next (s.charge (.fixed 2) false)

/-- `WAI`, opcode 0xCB (R331). -/
def execWai (s : State) : Result :=
  .next ((s.setRun .waiting).charge (.fixed 3) false)

/-- `STP`, opcode 0xDB (R332). -/
def execStp (s : State) : Result :=
  .next ((s.setRun .stopped).charge (.fixed 3) false)

/-- An undefined opcode of 1 byte: nothing but its cycles (R330, class undef-1). -/
def opUndef1 (k : Cost) (s : State) : State := s.charge k false

/-- An undefined opcode of 2 bytes: the operand byte is fetched and discarded (R330). -/
def opUndef2 (k : Cost) (s : State) : State := s.operandFetch.charge k false

/-- An undefined opcode of 3 bytes: both operand bytes are fetched and discarded (R330). -/
def opUndef3 (k : Cost) (s : State) : State := s.operandFetch.operandFetch.charge k false

/-- Undefined opcode 0x02, class undef-imm (R330, R106). -/
def execNop02 (_o : Byte) (s : State) : Result :=
  .next (opUndef2 (.fixed 2) s)

/-- Undefined opcode 0x03, class undef-1 (R330, R106). -/
def execNop03 (s : State) : Result :=
  .next (opUndef1 (.fixed 1) s)

/-- Undefined opcode 0x0B, class undef-1 (R330, R106). -/
def execNop0B (s : State) : Result :=
  .next (opUndef1 (.fixed 1) s)

/-- Undefined opcode 0x13, class undef-1 (R330, R106). -/
def execNop13 (s : State) : Result :=
  .next (opUndef1 (.fixed 1) s)

/-- Undefined opcode 0x1B, class undef-1 (R330, R106). -/
def execNop1B (s : State) : Result :=
  .next (opUndef1 (.fixed 1) s)

/-- Undefined opcode 0x22, class undef-imm (R330, R106). -/
def execNop22 (_o : Byte) (s : State) : Result :=
  .next (opUndef2 (.fixed 2) s)

/-- Undefined opcode 0x23, class undef-1 (R330, R106). -/
def execNop23 (s : State) : Result :=
  .next (opUndef1 (.fixed 1) s)

/-- Undefined opcode 0x2B, class undef-1 (R330, R106). -/
def execNop2B (s : State) : Result :=
  .next (opUndef1 (.fixed 1) s)

/-- Undefined opcode 0x33, class undef-1 (R330, R106). -/
def execNop33 (s : State) : Result :=
  .next (opUndef1 (.fixed 1) s)

/-- Undefined opcode 0x3B, class undef-1 (R330, R106). -/
def execNop3B (s : State) : Result :=
  .next (opUndef1 (.fixed 1) s)

/-- Undefined opcode 0x42, class undef-imm (R330, R106). -/
def execNop42 (_o : Byte) (s : State) : Result :=
  .next (opUndef2 (.fixed 2) s)

/-- Undefined opcode 0x43, class undef-1 (R330, R106). -/
def execNop43 (s : State) : Result :=
  .next (opUndef1 (.fixed 1) s)

/-- Undefined opcode 0x44, class undef-zp (R330, R106). -/
def execNop44 (_o : Byte) (s : State) : Result :=
  .next (opUndef2 (.fixed 3) s)

/-- Undefined opcode 0x4B, class undef-1 (R330, R106). -/
def execNop4B (s : State) : Result :=
  .next (opUndef1 (.fixed 1) s)

/-- Undefined opcode 0x53, class undef-1 (R330, R106). -/
def execNop53 (s : State) : Result :=
  .next (opUndef1 (.fixed 1) s)

/-- Undefined opcode 0x54, class undef-zp,X (R330, R106). -/
def execNop54 (_o : Byte) (s : State) : Result :=
  .next (opUndef2 (.fixed 4) s)

/-- Undefined opcode 0x5B, class undef-1 (R330, R106). -/
def execNop5B (s : State) : Result :=
  .next (opUndef1 (.fixed 1) s)

/-- Undefined opcode 0x5C, class undef-abs8 (R330, R106). -/
def execNop5C (_o : Word) (s : State) : Result :=
  .next (opUndef3 (.fixed 8) s)

/-- Undefined opcode 0x62, class undef-imm (R330, R106). -/
def execNop62 (_o : Byte) (s : State) : Result :=
  .next (opUndef2 (.fixed 2) s)

/-- Undefined opcode 0x63, class undef-1 (R330, R106). -/
def execNop63 (s : State) : Result :=
  .next (opUndef1 (.fixed 1) s)

/-- Undefined opcode 0x6B, class undef-1 (R330, R106). -/
def execNop6B (s : State) : Result :=
  .next (opUndef1 (.fixed 1) s)

/-- Undefined opcode 0x73, class undef-1 (R330, R106). -/
def execNop73 (s : State) : Result :=
  .next (opUndef1 (.fixed 1) s)

/-- Undefined opcode 0x7B, class undef-1 (R330, R106). -/
def execNop7B (s : State) : Result :=
  .next (opUndef1 (.fixed 1) s)

/-- Undefined opcode 0x82, class undef-imm (R330, R106). -/
def execNop82 (_o : Byte) (s : State) : Result :=
  .next (opUndef2 (.fixed 2) s)

/-- Undefined opcode 0x83, class undef-1 (R330, R106). -/
def execNop83 (s : State) : Result :=
  .next (opUndef1 (.fixed 1) s)

/-- Undefined opcode 0x8B, class undef-1 (R330, R106). -/
def execNop8B (s : State) : Result :=
  .next (opUndef1 (.fixed 1) s)

/-- Undefined opcode 0x93, class undef-1 (R330, R106). -/
def execNop93 (s : State) : Result :=
  .next (opUndef1 (.fixed 1) s)

/-- Undefined opcode 0x9B, class undef-1 (R330, R106). -/
def execNop9B (s : State) : Result :=
  .next (opUndef1 (.fixed 1) s)

/-- Undefined opcode 0xA3, class undef-1 (R330, R106). -/
def execNopA3 (s : State) : Result :=
  .next (opUndef1 (.fixed 1) s)

/-- Undefined opcode 0xAB, class undef-1 (R330, R106). -/
def execNopAB (s : State) : Result :=
  .next (opUndef1 (.fixed 1) s)

/-- Undefined opcode 0xB3, class undef-1 (R330, R106). -/
def execNopB3 (s : State) : Result :=
  .next (opUndef1 (.fixed 1) s)

/-- Undefined opcode 0xBB, class undef-1 (R330, R106). -/
def execNopBB (s : State) : Result :=
  .next (opUndef1 (.fixed 1) s)

/-- Undefined opcode 0xC2, class undef-imm (R330, R106). -/
def execNopC2 (_o : Byte) (s : State) : Result :=
  .next (opUndef2 (.fixed 2) s)

/-- Undefined opcode 0xC3, class undef-1 (R330, R106). -/
def execNopC3 (s : State) : Result :=
  .next (opUndef1 (.fixed 1) s)

/-- Undefined opcode 0xD3, class undef-1 (R330, R106). -/
def execNopD3 (s : State) : Result :=
  .next (opUndef1 (.fixed 1) s)

/-- Undefined opcode 0xD4, class undef-zp,X (R330, R106). -/
def execNopD4 (_o : Byte) (s : State) : Result :=
  .next (opUndef2 (.fixed 4) s)

/-- Undefined opcode 0xDC, class undef-abs (R330, R106). -/
def execNopDC (_o : Word) (s : State) : Result :=
  .next (opUndef3 (.fixed 4) s)

/-- Undefined opcode 0xE2, class undef-imm (R330, R106). -/
def execNopE2 (_o : Byte) (s : State) : Result :=
  .next (opUndef2 (.fixed 2) s)

/-- Undefined opcode 0xE3, class undef-1 (R330, R106). -/
def execNopE3 (s : State) : Result :=
  .next (opUndef1 (.fixed 1) s)

/-- Undefined opcode 0xEB, class undef-1 (R330, R106). -/
def execNopEB (s : State) : Result :=
  .next (opUndef1 (.fixed 1) s)

/-- Undefined opcode 0xF3, class undef-1 (R330, R106). -/
def execNopF3 (s : State) : Result :=
  .next (opUndef1 (.fixed 1) s)

/-- Undefined opcode 0xF4, class undef-zp,X (R330, R106). -/
def execNopF4 (_o : Byte) (s : State) : Result :=
  .next (opUndef2 (.fixed 4) s)

/-- Undefined opcode 0xFB, class undef-1 (R330, R106). -/
def execNopFB (s : State) : Result :=
  .next (opUndef1 (.fixed 1) s)

/-- Undefined opcode 0xFC, class undef-abs (R330, R106). -/
def execNopFC (_o : Word) (s : State) : Result :=
  .next (opUndef3 (.fixed 4) s)

end Sys2Proof.Machine
end

