-- ==== Sys2Proof/Syntax.lean ====
section
/-! DEFINITION. The instructions: one constructor per row of spec/opcode_table.json (R103), with the operand
bytes of its mode (R101, R102). An absolute operand is the word of its two bytes, low byte first. A
single-row mnemonic gives its name; the others take the mode as a suffix; an undefined opcode (R106) is
`nop` and its two hex digits. Rows with operand bytes come first, in opcode order, then rows without. -/

namespace Sys2Proof

inductive Instr where
  /-- 0x00 BRK -/
  | brk (sig : Byte)
  /-- 0x01 ORA ($nn,X) -/
  | oraZpXInd (z : Byte)
  /-- 0x02 undefined, class undef-imm -/
  | nop02 (o : Byte)
  /-- 0x04 TSB $nn -/
  | tsbZp (z : Byte)
  /-- 0x05 ORA $nn -/
  | oraZp (z : Byte)
  /-- 0x06 ASL $nn -/
  | aslZp (z : Byte)
  /-- 0x07 RMB0 $nn -/
  | rmb0 (z : Byte)
  /-- 0x09 ORA #$nn -/
  | oraImm (v : Byte)
  /-- 0x0C TSB $nnnn -/
  | tsbAbs (addr : Word)
  /-- 0x0D ORA $nnnn -/
  | oraAbs (addr : Word)
  /-- 0x0E ASL $nnnn -/
  | aslAbs (addr : Word)
  /-- 0x0F BBR0 $nn,rel -/
  | bbr0 (z : Byte) (d : Byte)
  /-- 0x10 BPL rel -/
  | bpl (d : Byte)
  /-- 0x11 ORA ($nn),Y -/
  | oraZpIndY (z : Byte)
  /-- 0x12 ORA ($nn) -/
  | oraZpInd (z : Byte)
  /-- 0x14 TRB $nn -/
  | trbZp (z : Byte)
  /-- 0x15 ORA $nn,X -/
  | oraZpX (z : Byte)
  /-- 0x16 ASL $nn,X -/
  | aslZpX (z : Byte)
  /-- 0x17 RMB1 $nn -/
  | rmb1 (z : Byte)
  /-- 0x19 ORA $nnnn,Y -/
  | oraAbsY (addr : Word)
  /-- 0x1C TRB $nnnn -/
  | trbAbs (addr : Word)
  /-- 0x1D ORA $nnnn,X -/
  | oraAbsX (addr : Word)
  /-- 0x1E ASL $nnnn,X -/
  | aslAbsX (addr : Word)
  /-- 0x1F BBR1 $nn,rel -/
  | bbr1 (z : Byte) (d : Byte)
  /-- 0x20 JSR $nnnn -/
  | jsr (addr : Word)
  /-- 0x21 AND ($nn,X) -/
  | andZpXInd (z : Byte)
  /-- 0x22 undefined, class undef-imm -/
  | nop22 (o : Byte)
  /-- 0x24 BIT $nn -/
  | bitZp (z : Byte)
  /-- 0x25 AND $nn -/
  | andZp (z : Byte)
  /-- 0x26 ROL $nn -/
  | rolZp (z : Byte)
  /-- 0x27 RMB2 $nn -/
  | rmb2 (z : Byte)
  /-- 0x29 AND #$nn -/
  | andImm (v : Byte)
  /-- 0x2C BIT $nnnn -/
  | bitAbs (addr : Word)
  /-- 0x2D AND $nnnn -/
  | andAbs (addr : Word)
  /-- 0x2E ROL $nnnn -/
  | rolAbs (addr : Word)
  /-- 0x2F BBR2 $nn,rel -/
  | bbr2 (z : Byte) (d : Byte)
  /-- 0x30 BMI rel -/
  | bmi (d : Byte)
  /-- 0x31 AND ($nn),Y -/
  | andZpIndY (z : Byte)
  /-- 0x32 AND ($nn) -/
  | andZpInd (z : Byte)
  /-- 0x34 BIT $nn,X -/
  | bitZpX (z : Byte)
  /-- 0x35 AND $nn,X -/
  | andZpX (z : Byte)
  /-- 0x36 ROL $nn,X -/
  | rolZpX (z : Byte)
  /-- 0x37 RMB3 $nn -/
  | rmb3 (z : Byte)
  /-- 0x39 AND $nnnn,Y -/
  | andAbsY (addr : Word)
  /-- 0x3C BIT $nnnn,X -/
  | bitAbsX (addr : Word)
  /-- 0x3D AND $nnnn,X -/
  | andAbsX (addr : Word)
  /-- 0x3E ROL $nnnn,X -/
  | rolAbsX (addr : Word)
  /-- 0x3F BBR3 $nn,rel -/
  | bbr3 (z : Byte) (d : Byte)
  /-- 0x41 EOR ($nn,X) -/
  | eorZpXInd (z : Byte)
  /-- 0x42 undefined, class undef-imm -/
  | nop42 (o : Byte)
  /-- 0x44 undefined, class undef-zp -/
  | nop44 (o : Byte)
  /-- 0x45 EOR $nn -/
  | eorZp (z : Byte)
  /-- 0x46 LSR $nn -/
  | lsrZp (z : Byte)
  /-- 0x47 RMB4 $nn -/
  | rmb4 (z : Byte)
  /-- 0x49 EOR #$nn -/
  | eorImm (v : Byte)
  /-- 0x4C JMP $nnnn -/
  | jmpAbs (addr : Word)
  /-- 0x4D EOR $nnnn -/
  | eorAbs (addr : Word)
  /-- 0x4E LSR $nnnn -/
  | lsrAbs (addr : Word)
  /-- 0x4F BBR4 $nn,rel -/
  | bbr4 (z : Byte) (d : Byte)
  /-- 0x50 BVC rel -/
  | bvc (d : Byte)
  /-- 0x51 EOR ($nn),Y -/
  | eorZpIndY (z : Byte)
  /-- 0x52 EOR ($nn) -/
  | eorZpInd (z : Byte)
  /-- 0x54 undefined, class undef-zp,X -/
  | nop54 (o : Byte)
  /-- 0x55 EOR $nn,X -/
  | eorZpX (z : Byte)
  /-- 0x56 LSR $nn,X -/
  | lsrZpX (z : Byte)
  /-- 0x57 RMB5 $nn -/
  | rmb5 (z : Byte)
  /-- 0x59 EOR $nnnn,Y -/
  | eorAbsY (addr : Word)
  /-- 0x5C undefined, class undef-abs8 -/
  | nop5C (o : Word)
  /-- 0x5D EOR $nnnn,X -/
  | eorAbsX (addr : Word)
  /-- 0x5E LSR $nnnn,X -/
  | lsrAbsX (addr : Word)
  /-- 0x5F BBR5 $nn,rel -/
  | bbr5 (z : Byte) (d : Byte)
  /-- 0x61 ADC ($nn,X) -/
  | adcZpXInd (z : Byte)
  /-- 0x62 undefined, class undef-imm -/
  | nop62 (o : Byte)
  /-- 0x64 STZ $nn -/
  | stzZp (z : Byte)
  /-- 0x65 ADC $nn -/
  | adcZp (z : Byte)
  /-- 0x66 ROR $nn -/
  | rorZp (z : Byte)
  /-- 0x67 RMB6 $nn -/
  | rmb6 (z : Byte)
  /-- 0x69 ADC #$nn -/
  | adcImm (v : Byte)
  /-- 0x6C JMP ($nnnn) -/
  | jmpAbsInd (addr : Word)
  /-- 0x6D ADC $nnnn -/
  | adcAbs (addr : Word)
  /-- 0x6E ROR $nnnn -/
  | rorAbs (addr : Word)
  /-- 0x6F BBR6 $nn,rel -/
  | bbr6 (z : Byte) (d : Byte)
  /-- 0x70 BVS rel -/
  | bvs (d : Byte)
  /-- 0x71 ADC ($nn),Y -/
  | adcZpIndY (z : Byte)
  /-- 0x72 ADC ($nn) -/
  | adcZpInd (z : Byte)
  /-- 0x74 STZ $nn,X -/
  | stzZpX (z : Byte)
  /-- 0x75 ADC $nn,X -/
  | adcZpX (z : Byte)
  /-- 0x76 ROR $nn,X -/
  | rorZpX (z : Byte)
  /-- 0x77 RMB7 $nn -/
  | rmb7 (z : Byte)
  /-- 0x79 ADC $nnnn,Y -/
  | adcAbsY (addr : Word)
  /-- 0x7C JMP ($nnnn,X) -/
  | jmpAbsXInd (addr : Word)
  /-- 0x7D ADC $nnnn,X -/
  | adcAbsX (addr : Word)
  /-- 0x7E ROR $nnnn,X -/
  | rorAbsX (addr : Word)
  /-- 0x7F BBR7 $nn,rel -/
  | bbr7 (z : Byte) (d : Byte)
  /-- 0x80 BRA rel -/
  | bra (d : Byte)
  /-- 0x81 STA ($nn,X) -/
  | staZpXInd (z : Byte)
  /-- 0x82 undefined, class undef-imm -/
  | nop82 (o : Byte)
  /-- 0x84 STY $nn -/
  | styZp (z : Byte)
  /-- 0x85 STA $nn -/
  | staZp (z : Byte)
  /-- 0x86 STX $nn -/
  | stxZp (z : Byte)
  /-- 0x87 SMB0 $nn -/
  | smb0 (z : Byte)
  /-- 0x89 BIT #$nn -/
  | bitImm (v : Byte)
  /-- 0x8C STY $nnnn -/
  | styAbs (addr : Word)
  /-- 0x8D STA $nnnn -/
  | staAbs (addr : Word)
  /-- 0x8E STX $nnnn -/
  | stxAbs (addr : Word)
  /-- 0x8F BBS0 $nn,rel -/
  | bbs0 (z : Byte) (d : Byte)
  /-- 0x90 BCC rel -/
  | bcc (d : Byte)
  /-- 0x91 STA ($nn),Y -/
  | staZpIndY (z : Byte)
  /-- 0x92 STA ($nn) -/
  | staZpInd (z : Byte)
  /-- 0x94 STY $nn,X -/
  | styZpX (z : Byte)
  /-- 0x95 STA $nn,X -/
  | staZpX (z : Byte)
  /-- 0x96 STX $nn,Y -/
  | stxZpY (z : Byte)
  /-- 0x97 SMB1 $nn -/
  | smb1 (z : Byte)
  /-- 0x99 STA $nnnn,Y -/
  | staAbsY (addr : Word)
  /-- 0x9C STZ $nnnn -/
  | stzAbs (addr : Word)
  /-- 0x9D STA $nnnn,X -/
  | staAbsX (addr : Word)
  /-- 0x9E STZ $nnnn,X -/
  | stzAbsX (addr : Word)
  /-- 0x9F BBS1 $nn,rel -/
  | bbs1 (z : Byte) (d : Byte)
  /-- 0xA0 LDY #$nn -/
  | ldyImm (v : Byte)
  /-- 0xA1 LDA ($nn,X) -/
  | ldaZpXInd (z : Byte)
  /-- 0xA2 LDX #$nn -/
  | ldxImm (v : Byte)
  /-- 0xA4 LDY $nn -/
  | ldyZp (z : Byte)
  /-- 0xA5 LDA $nn -/
  | ldaZp (z : Byte)
  /-- 0xA6 LDX $nn -/
  | ldxZp (z : Byte)
  /-- 0xA7 SMB2 $nn -/
  | smb2 (z : Byte)
  /-- 0xA9 LDA #$nn -/
  | ldaImm (v : Byte)
  /-- 0xAC LDY $nnnn -/
  | ldyAbs (addr : Word)
  /-- 0xAD LDA $nnnn -/
  | ldaAbs (addr : Word)
  /-- 0xAE LDX $nnnn -/
  | ldxAbs (addr : Word)
  /-- 0xAF BBS2 $nn,rel -/
  | bbs2 (z : Byte) (d : Byte)
  /-- 0xB0 BCS rel -/
  | bcs (d : Byte)
  /-- 0xB1 LDA ($nn),Y -/
  | ldaZpIndY (z : Byte)
  /-- 0xB2 LDA ($nn) -/
  | ldaZpInd (z : Byte)
  /-- 0xB4 LDY $nn,X -/
  | ldyZpX (z : Byte)
  /-- 0xB5 LDA $nn,X -/
  | ldaZpX (z : Byte)
  /-- 0xB6 LDX $nn,Y -/
  | ldxZpY (z : Byte)
  /-- 0xB7 SMB3 $nn -/
  | smb3 (z : Byte)
  /-- 0xB9 LDA $nnnn,Y -/
  | ldaAbsY (addr : Word)
  /-- 0xBC LDY $nnnn,X -/
  | ldyAbsX (addr : Word)
  /-- 0xBD LDA $nnnn,X -/
  | ldaAbsX (addr : Word)
  /-- 0xBE LDX $nnnn,Y -/
  | ldxAbsY (addr : Word)
  /-- 0xBF BBS3 $nn,rel -/
  | bbs3 (z : Byte) (d : Byte)
  /-- 0xC0 CPY #$nn -/
  | cpyImm (v : Byte)
  /-- 0xC1 CMP ($nn,X) -/
  | cmpZpXInd (z : Byte)
  /-- 0xC2 undefined, class undef-imm -/
  | nopC2 (o : Byte)
  /-- 0xC4 CPY $nn -/
  | cpyZp (z : Byte)
  /-- 0xC5 CMP $nn -/
  | cmpZp (z : Byte)
  /-- 0xC6 DEC $nn -/
  | decZp (z : Byte)
  /-- 0xC7 SMB4 $nn -/
  | smb4 (z : Byte)
  /-- 0xC9 CMP #$nn -/
  | cmpImm (v : Byte)
  /-- 0xCC CPY $nnnn -/
  | cpyAbs (addr : Word)
  /-- 0xCD CMP $nnnn -/
  | cmpAbs (addr : Word)
  /-- 0xCE DEC $nnnn -/
  | decAbs (addr : Word)
  /-- 0xCF BBS4 $nn,rel -/
  | bbs4 (z : Byte) (d : Byte)
  /-- 0xD0 BNE rel -/
  | bne (d : Byte)
  /-- 0xD1 CMP ($nn),Y -/
  | cmpZpIndY (z : Byte)
  /-- 0xD2 CMP ($nn) -/
  | cmpZpInd (z : Byte)
  /-- 0xD4 undefined, class undef-zp,X -/
  | nopD4 (o : Byte)
  /-- 0xD5 CMP $nn,X -/
  | cmpZpX (z : Byte)
  /-- 0xD6 DEC $nn,X -/
  | decZpX (z : Byte)
  /-- 0xD7 SMB5 $nn -/
  | smb5 (z : Byte)
  /-- 0xD9 CMP $nnnn,Y -/
  | cmpAbsY (addr : Word)
  /-- 0xDC undefined, class undef-abs -/
  | nopDC (o : Word)
  /-- 0xDD CMP $nnnn,X -/
  | cmpAbsX (addr : Word)
  /-- 0xDE DEC $nnnn,X -/
  | decAbsX (addr : Word)
  /-- 0xDF BBS5 $nn,rel -/
  | bbs5 (z : Byte) (d : Byte)
  /-- 0xE0 CPX #$nn -/
  | cpxImm (v : Byte)
  /-- 0xE1 SBC ($nn,X) -/
  | sbcZpXInd (z : Byte)
  /-- 0xE2 undefined, class undef-imm -/
  | nopE2 (o : Byte)
  /-- 0xE4 CPX $nn -/
  | cpxZp (z : Byte)
  /-- 0xE5 SBC $nn -/
  | sbcZp (z : Byte)
  /-- 0xE6 INC $nn -/
  | incZp (z : Byte)
  /-- 0xE7 SMB6 $nn -/
  | smb6 (z : Byte)
  /-- 0xE9 SBC #$nn -/
  | sbcImm (v : Byte)
  /-- 0xEC CPX $nnnn -/
  | cpxAbs (addr : Word)
  /-- 0xED SBC $nnnn -/
  | sbcAbs (addr : Word)
  /-- 0xEE INC $nnnn -/
  | incAbs (addr : Word)
  /-- 0xEF BBS6 $nn,rel -/
  | bbs6 (z : Byte) (d : Byte)
  /-- 0xF0 BEQ rel -/
  | beq (d : Byte)
  /-- 0xF1 SBC ($nn),Y -/
  | sbcZpIndY (z : Byte)
  /-- 0xF2 SBC ($nn) -/
  | sbcZpInd (z : Byte)
  /-- 0xF4 undefined, class undef-zp,X -/
  | nopF4 (o : Byte)
  /-- 0xF5 SBC $nn,X -/
  | sbcZpX (z : Byte)
  /-- 0xF6 INC $nn,X -/
  | incZpX (z : Byte)
  /-- 0xF7 SMB7 $nn -/
  | smb7 (z : Byte)
  /-- 0xF9 SBC $nnnn,Y -/
  | sbcAbsY (addr : Word)
  /-- 0xFC undefined, class undef-abs -/
  | nopFC (o : Word)
  /-- 0xFD SBC $nnnn,X -/
  | sbcAbsX (addr : Word)
  /-- 0xFE INC $nnnn,X -/
  | incAbsX (addr : Word)
  /-- 0xFF BBS7 $nn,rel -/
  | bbs7 (z : Byte) (d : Byte)
  /-- 0x03 undefined, class undef-1 -/
  | nop03
  /-- 0x08 PHP -/
  | php
  /-- 0x0A ASL A -/
  | aslAcc
  /-- 0x0B undefined, class undef-1 -/
  | nop0B
  /-- 0x13 undefined, class undef-1 -/
  | nop13
  /-- 0x18 CLC -/
  | clc
  /-- 0x1A INC A -/
  | incAcc
  /-- 0x1B undefined, class undef-1 -/
  | nop1B
  /-- 0x23 undefined, class undef-1 -/
  | nop23
  /-- 0x28 PLP -/
  | plp
  /-- 0x2A ROL A -/
  | rolAcc
  /-- 0x2B undefined, class undef-1 -/
  | nop2B
  /-- 0x33 undefined, class undef-1 -/
  | nop33
  /-- 0x38 SEC -/
  | sec
  /-- 0x3A DEC A -/
  | decAcc
  /-- 0x3B undefined, class undef-1 -/
  | nop3B
  /-- 0x40 RTI -/
  | rti
  /-- 0x43 undefined, class undef-1 -/
  | nop43
  /-- 0x48 PHA -/
  | pha
  /-- 0x4A LSR A -/
  | lsrAcc
  /-- 0x4B undefined, class undef-1 -/
  | nop4B
  /-- 0x53 undefined, class undef-1 -/
  | nop53
  /-- 0x58 CLI -/
  | cli
  /-- 0x5A PHY -/
  | phy
  /-- 0x5B undefined, class undef-1 -/
  | nop5B
  /-- 0x60 RTS -/
  | rts
  /-- 0x63 undefined, class undef-1 -/
  | nop63
  /-- 0x68 PLA -/
  | pla
  /-- 0x6A ROR A -/
  | rorAcc
  /-- 0x6B undefined, class undef-1 -/
  | nop6B
  /-- 0x73 undefined, class undef-1 -/
  | nop73
  /-- 0x78 SEI -/
  | sei
  /-- 0x7A PLY -/
  | ply
  /-- 0x7B undefined, class undef-1 -/
  | nop7B
  /-- 0x83 undefined, class undef-1 -/
  | nop83
  /-- 0x88 DEY -/
  | dey
  /-- 0x8A TXA -/
  | txa
  /-- 0x8B undefined, class undef-1 -/
  | nop8B
  /-- 0x93 undefined, class undef-1 -/
  | nop93
  /-- 0x98 TYA -/
  | tya
  /-- 0x9A TXS -/
  | txs
  /-- 0x9B undefined, class undef-1 -/
  | nop9B
  /-- 0xA3 undefined, class undef-1 -/
  | nopA3
  /-- 0xA8 TAY -/
  | tay
  /-- 0xAA TAX -/
  | tax
  /-- 0xAB undefined, class undef-1 -/
  | nopAB
  /-- 0xB3 undefined, class undef-1 -/
  | nopB3
  /-- 0xB8 CLV -/
  | clv
  /-- 0xBA TSX -/
  | tsx
  /-- 0xBB undefined, class undef-1 -/
  | nopBB
  /-- 0xC3 undefined, class undef-1 -/
  | nopC3
  /-- 0xC8 INY -/
  | iny
  /-- 0xCA DEX -/
  | dex
  /-- 0xCB WAI -/
  | wai
  /-- 0xD3 undefined, class undef-1 -/
  | nopD3
  /-- 0xD8 CLD -/
  | cld
  /-- 0xDA PHX -/
  | phx
  /-- 0xDB STP -/
  | stp
  /-- 0xE3 undefined, class undef-1 -/
  | nopE3
  /-- 0xE8 INX -/
  | inx
  /-- 0xEA NOP -/
  | nop
  /-- 0xEB undefined, class undef-1 -/
  | nopEB
  /-- 0xF3 undefined, class undef-1 -/
  | nopF3
  /-- 0xF8 SED -/
  | sed
  /-- 0xFA PLX -/
  | plx
  /-- 0xFB undefined, class undef-1 -/
  | nopFB
deriving DecidableEq, Repr

end Sys2Proof
end

