-- ==== Sys2Proof/Machine/Dispatch.lean ====
section
/-! DEFINITION. The dispatch of R110: one arm per row of the opcode table, in opcode order. -/

namespace Sys2Proof.Machine

def exec (i : Instr) (s : State) : Host.Outcome State Fault Refusal :=
  match i with
  -- opcodes 0x0x
  | .brk sig => Sys2Proof.Machine.execBrk sig s
  | .oraZpXInd z => Sys2Proof.Machine.execOraZpXInd z s
  | .nop02 o => Sys2Proof.Machine.execNop02 o s
  | .nop03 => Sys2Proof.Machine.execNop03 s
  | .tsbZp z => Sys2Proof.Machine.execTsbZp z s
  | .oraZp z => Sys2Proof.Machine.execOraZp z s
  | .aslZp z => Sys2Proof.Machine.execAslZp z s
  | .rmb0 z => Sys2Proof.Machine.execRmb0 z s
  | .php => Sys2Proof.Machine.execPhp s
  | .oraImm v => Sys2Proof.Machine.execOraImm v s
  | .aslAcc => Sys2Proof.Machine.execAslAcc s
  | .nop0B => Sys2Proof.Machine.execNop0B s
  | .tsbAbs addr => Sys2Proof.Machine.execTsbAbs addr s
  | .oraAbs addr => Sys2Proof.Machine.execOraAbs addr s
  | .aslAbs addr => Sys2Proof.Machine.execAslAbs addr s
  | .bbr0 z d => Sys2Proof.Machine.execBbr0 z d s
  -- opcodes 0x1x
  | .bpl d => Sys2Proof.Machine.execBpl d s
  | .oraZpIndY z => Sys2Proof.Machine.execOraZpIndY z s
  | .oraZpInd z => Sys2Proof.Machine.execOraZpInd z s
  | .nop13 => Sys2Proof.Machine.execNop13 s
  | .trbZp z => Sys2Proof.Machine.execTrbZp z s
  | .oraZpX z => Sys2Proof.Machine.execOraZpX z s
  | .aslZpX z => Sys2Proof.Machine.execAslZpX z s
  | .rmb1 z => Sys2Proof.Machine.execRmb1 z s
  | .clc => Sys2Proof.Machine.execClc s
  | .oraAbsY addr => Sys2Proof.Machine.execOraAbsY addr s
  | .incAcc => Sys2Proof.Machine.execIncAcc s
  | .nop1B => Sys2Proof.Machine.execNop1B s
  | .trbAbs addr => Sys2Proof.Machine.execTrbAbs addr s
  | .oraAbsX addr => Sys2Proof.Machine.execOraAbsX addr s
  | .aslAbsX addr => Sys2Proof.Machine.execAslAbsX addr s
  | .bbr1 z d => Sys2Proof.Machine.execBbr1 z d s
  -- opcodes 0x2x
  | .jsr addr => Sys2Proof.Machine.execJsr addr s
  | .andZpXInd z => Sys2Proof.Machine.execAndZpXInd z s
  | .nop22 o => Sys2Proof.Machine.execNop22 o s
  | .nop23 => Sys2Proof.Machine.execNop23 s
  | .bitZp z => Sys2Proof.Machine.execBitZp z s
  | .andZp z => Sys2Proof.Machine.execAndZp z s
  | .rolZp z => Sys2Proof.Machine.execRolZp z s
  | .rmb2 z => Sys2Proof.Machine.execRmb2 z s
  | .plp => Sys2Proof.Machine.execPlp s
  | .andImm v => Sys2Proof.Machine.execAndImm v s
  | .rolAcc => Sys2Proof.Machine.execRolAcc s
  | .nop2B => Sys2Proof.Machine.execNop2B s
  | .bitAbs addr => Sys2Proof.Machine.execBitAbs addr s
  | .andAbs addr => Sys2Proof.Machine.execAndAbs addr s
  | .rolAbs addr => Sys2Proof.Machine.execRolAbs addr s
  | .bbr2 z d => Sys2Proof.Machine.execBbr2 z d s
  -- opcodes 0x3x
  | .bmi d => Sys2Proof.Machine.execBmi d s
  | .andZpIndY z => Sys2Proof.Machine.execAndZpIndY z s
  | .andZpInd z => Sys2Proof.Machine.execAndZpInd z s
  | .nop33 => Sys2Proof.Machine.execNop33 s
  | .bitZpX z => Sys2Proof.Machine.execBitZpX z s
  | .andZpX z => Sys2Proof.Machine.execAndZpX z s
  | .rolZpX z => Sys2Proof.Machine.execRolZpX z s
  | .rmb3 z => Sys2Proof.Machine.execRmb3 z s
  | .sec => Sys2Proof.Machine.execSec s
  | .andAbsY addr => Sys2Proof.Machine.execAndAbsY addr s
  | .decAcc => Sys2Proof.Machine.execDecAcc s
  | .nop3B => Sys2Proof.Machine.execNop3B s
  | .bitAbsX addr => Sys2Proof.Machine.execBitAbsX addr s
  | .andAbsX addr => Sys2Proof.Machine.execAndAbsX addr s
  | .rolAbsX addr => Sys2Proof.Machine.execRolAbsX addr s
  | .bbr3 z d => Sys2Proof.Machine.execBbr3 z d s
  -- opcodes 0x4x
  | .rti => Sys2Proof.Machine.execRti s
  | .eorZpXInd z => Sys2Proof.Machine.execEorZpXInd z s
  | .nop42 o => Sys2Proof.Machine.execNop42 o s
  | .nop43 => Sys2Proof.Machine.execNop43 s
  | .nop44 o => Sys2Proof.Machine.execNop44 o s
  | .eorZp z => Sys2Proof.Machine.execEorZp z s
  | .lsrZp z => Sys2Proof.Machine.execLsrZp z s
  | .rmb4 z => Sys2Proof.Machine.execRmb4 z s
  | .pha => Sys2Proof.Machine.execPha s
  | .eorImm v => Sys2Proof.Machine.execEorImm v s
  | .lsrAcc => Sys2Proof.Machine.execLsrAcc s
  | .nop4B => Sys2Proof.Machine.execNop4B s
  | .jmpAbs addr => Sys2Proof.Machine.execJmpAbs addr s
  | .eorAbs addr => Sys2Proof.Machine.execEorAbs addr s
  | .lsrAbs addr => Sys2Proof.Machine.execLsrAbs addr s
  | .bbr4 z d => Sys2Proof.Machine.execBbr4 z d s
  -- opcodes 0x5x
  | .bvc d => Sys2Proof.Machine.execBvc d s
  | .eorZpIndY z => Sys2Proof.Machine.execEorZpIndY z s
  | .eorZpInd z => Sys2Proof.Machine.execEorZpInd z s
  | .nop53 => Sys2Proof.Machine.execNop53 s
  | .nop54 o => Sys2Proof.Machine.execNop54 o s
  | .eorZpX z => Sys2Proof.Machine.execEorZpX z s
  | .lsrZpX z => Sys2Proof.Machine.execLsrZpX z s
  | .rmb5 z => Sys2Proof.Machine.execRmb5 z s
  | .cli => Sys2Proof.Machine.execCli s
  | .eorAbsY addr => Sys2Proof.Machine.execEorAbsY addr s
  | .phy => Sys2Proof.Machine.execPhy s
  | .nop5B => Sys2Proof.Machine.execNop5B s
  | .nop5C o => Sys2Proof.Machine.execNop5C o s
  | .eorAbsX addr => Sys2Proof.Machine.execEorAbsX addr s
  | .lsrAbsX addr => Sys2Proof.Machine.execLsrAbsX addr s
  | .bbr5 z d => Sys2Proof.Machine.execBbr5 z d s
  -- opcodes 0x6x
  | .rts => Sys2Proof.Machine.execRts s
  | .adcZpXInd z => Sys2Proof.Machine.execAdcZpXInd z s
  | .nop62 o => Sys2Proof.Machine.execNop62 o s
  | .nop63 => Sys2Proof.Machine.execNop63 s
  | .stzZp z => Sys2Proof.Machine.execStzZp z s
  | .adcZp z => Sys2Proof.Machine.execAdcZp z s
  | .rorZp z => Sys2Proof.Machine.execRorZp z s
  | .rmb6 z => Sys2Proof.Machine.execRmb6 z s
  | .pla => Sys2Proof.Machine.execPla s
  | .adcImm v => Sys2Proof.Machine.execAdcImm v s
  | .rorAcc => Sys2Proof.Machine.execRorAcc s
  | .nop6B => Sys2Proof.Machine.execNop6B s
  | .jmpAbsInd addr => Sys2Proof.Machine.execJmpAbsInd addr s
  | .adcAbs addr => Sys2Proof.Machine.execAdcAbs addr s
  | .rorAbs addr => Sys2Proof.Machine.execRorAbs addr s
  | .bbr6 z d => Sys2Proof.Machine.execBbr6 z d s
  -- opcodes 0x7x
  | .bvs d => Sys2Proof.Machine.execBvs d s
  | .adcZpIndY z => Sys2Proof.Machine.execAdcZpIndY z s
  | .adcZpInd z => Sys2Proof.Machine.execAdcZpInd z s
  | .nop73 => Sys2Proof.Machine.execNop73 s
  | .stzZpX z => Sys2Proof.Machine.execStzZpX z s
  | .adcZpX z => Sys2Proof.Machine.execAdcZpX z s
  | .rorZpX z => Sys2Proof.Machine.execRorZpX z s
  | .rmb7 z => Sys2Proof.Machine.execRmb7 z s
  | .sei => Sys2Proof.Machine.execSei s
  | .adcAbsY addr => Sys2Proof.Machine.execAdcAbsY addr s
  | .ply => Sys2Proof.Machine.execPly s
  | .nop7B => Sys2Proof.Machine.execNop7B s
  | .jmpAbsXInd addr => Sys2Proof.Machine.execJmpAbsXInd addr s
  | .adcAbsX addr => Sys2Proof.Machine.execAdcAbsX addr s
  | .rorAbsX addr => Sys2Proof.Machine.execRorAbsX addr s
  | .bbr7 z d => Sys2Proof.Machine.execBbr7 z d s
  -- opcodes 0x8x
  | .bra d => Sys2Proof.Machine.execBra d s
  | .staZpXInd z => Sys2Proof.Machine.execStaZpXInd z s
  | .nop82 o => Sys2Proof.Machine.execNop82 o s
  | .nop83 => Sys2Proof.Machine.execNop83 s
  | .styZp z => Sys2Proof.Machine.execStyZp z s
  | .staZp z => Sys2Proof.Machine.execStaZp z s
  | .stxZp z => Sys2Proof.Machine.execStxZp z s
  | .smb0 z => Sys2Proof.Machine.execSmb0 z s
  | .dey => Sys2Proof.Machine.execDey s
  | .bitImm v => Sys2Proof.Machine.execBitImm v s
  | .txa => Sys2Proof.Machine.execTxa s
  | .nop8B => Sys2Proof.Machine.execNop8B s
  | .styAbs addr => Sys2Proof.Machine.execStyAbs addr s
  | .staAbs addr => Sys2Proof.Machine.execStaAbs addr s
  | .stxAbs addr => Sys2Proof.Machine.execStxAbs addr s
  | .bbs0 z d => Sys2Proof.Machine.execBbs0 z d s
  -- opcodes 0x9x
  | .bcc d => Sys2Proof.Machine.execBcc d s
  | .staZpIndY z => Sys2Proof.Machine.execStaZpIndY z s
  | .staZpInd z => Sys2Proof.Machine.execStaZpInd z s
  | .nop93 => Sys2Proof.Machine.execNop93 s
  | .styZpX z => Sys2Proof.Machine.execStyZpX z s
  | .staZpX z => Sys2Proof.Machine.execStaZpX z s
  | .stxZpY z => Sys2Proof.Machine.execStxZpY z s
  | .smb1 z => Sys2Proof.Machine.execSmb1 z s
  | .tya => Sys2Proof.Machine.execTya s
  | .staAbsY addr => Sys2Proof.Machine.execStaAbsY addr s
  | .txs => Sys2Proof.Machine.execTxs s
  | .nop9B => Sys2Proof.Machine.execNop9B s
  | .stzAbs addr => Sys2Proof.Machine.execStzAbs addr s
  | .staAbsX addr => Sys2Proof.Machine.execStaAbsX addr s
  | .stzAbsX addr => Sys2Proof.Machine.execStzAbsX addr s
  | .bbs1 z d => Sys2Proof.Machine.execBbs1 z d s
  -- opcodes 0xAx
  | .ldyImm v => Sys2Proof.Machine.execLdyImm v s
  | .ldaZpXInd z => Sys2Proof.Machine.execLdaZpXInd z s
  | .ldxImm v => Sys2Proof.Machine.execLdxImm v s
  | .nopA3 => Sys2Proof.Machine.execNopA3 s
  | .ldyZp z => Sys2Proof.Machine.execLdyZp z s
  | .ldaZp z => Sys2Proof.Machine.execLdaZp z s
  | .ldxZp z => Sys2Proof.Machine.execLdxZp z s
  | .smb2 z => Sys2Proof.Machine.execSmb2 z s
  | .tay => Sys2Proof.Machine.execTay s
  | .ldaImm v => Sys2Proof.Machine.execLdaImm v s
  | .tax => Sys2Proof.Machine.execTax s
  | .nopAB => Sys2Proof.Machine.execNopAB s
  | .ldyAbs addr => Sys2Proof.Machine.execLdyAbs addr s
  | .ldaAbs addr => Sys2Proof.Machine.execLdaAbs addr s
  | .ldxAbs addr => Sys2Proof.Machine.execLdxAbs addr s
  | .bbs2 z d => Sys2Proof.Machine.execBbs2 z d s
  -- opcodes 0xBx
  | .bcs d => Sys2Proof.Machine.execBcs d s
  | .ldaZpIndY z => Sys2Proof.Machine.execLdaZpIndY z s
  | .ldaZpInd z => Sys2Proof.Machine.execLdaZpInd z s
  | .nopB3 => Sys2Proof.Machine.execNopB3 s
  | .ldyZpX z => Sys2Proof.Machine.execLdyZpX z s
  | .ldaZpX z => Sys2Proof.Machine.execLdaZpX z s
  | .ldxZpY z => Sys2Proof.Machine.execLdxZpY z s
  | .smb3 z => Sys2Proof.Machine.execSmb3 z s
  | .clv => Sys2Proof.Machine.execClv s
  | .ldaAbsY addr => Sys2Proof.Machine.execLdaAbsY addr s
  | .tsx => Sys2Proof.Machine.execTsx s
  | .nopBB => Sys2Proof.Machine.execNopBB s
  | .ldyAbsX addr => Sys2Proof.Machine.execLdyAbsX addr s
  | .ldaAbsX addr => Sys2Proof.Machine.execLdaAbsX addr s
  | .ldxAbsY addr => Sys2Proof.Machine.execLdxAbsY addr s
  | .bbs3 z d => Sys2Proof.Machine.execBbs3 z d s
  -- opcodes 0xCx
  | .cpyImm v => Sys2Proof.Machine.execCpyImm v s
  | .cmpZpXInd z => Sys2Proof.Machine.execCmpZpXInd z s
  | .nopC2 o => Sys2Proof.Machine.execNopC2 o s
  | .nopC3 => Sys2Proof.Machine.execNopC3 s
  | .cpyZp z => Sys2Proof.Machine.execCpyZp z s
  | .cmpZp z => Sys2Proof.Machine.execCmpZp z s
  | .decZp z => Sys2Proof.Machine.execDecZp z s
  | .smb4 z => Sys2Proof.Machine.execSmb4 z s
  | .iny => Sys2Proof.Machine.execIny s
  | .cmpImm v => Sys2Proof.Machine.execCmpImm v s
  | .dex => Sys2Proof.Machine.execDex s
  | .wai => Sys2Proof.Machine.execWai s
  | .cpyAbs addr => Sys2Proof.Machine.execCpyAbs addr s
  | .cmpAbs addr => Sys2Proof.Machine.execCmpAbs addr s
  | .decAbs addr => Sys2Proof.Machine.execDecAbs addr s
  | .bbs4 z d => Sys2Proof.Machine.execBbs4 z d s
  -- opcodes 0xDx
  | .bne d => Sys2Proof.Machine.execBne d s
  | .cmpZpIndY z => Sys2Proof.Machine.execCmpZpIndY z s
  | .cmpZpInd z => Sys2Proof.Machine.execCmpZpInd z s
  | .nopD3 => Sys2Proof.Machine.execNopD3 s
  | .nopD4 o => Sys2Proof.Machine.execNopD4 o s
  | .cmpZpX z => Sys2Proof.Machine.execCmpZpX z s
  | .decZpX z => Sys2Proof.Machine.execDecZpX z s
  | .smb5 z => Sys2Proof.Machine.execSmb5 z s
  | .cld => Sys2Proof.Machine.execCld s
  | .cmpAbsY addr => Sys2Proof.Machine.execCmpAbsY addr s
  | .phx => Sys2Proof.Machine.execPhx s
  | .stp => Sys2Proof.Machine.execStp s
  | .nopDC o => Sys2Proof.Machine.execNopDC o s
  | .cmpAbsX addr => Sys2Proof.Machine.execCmpAbsX addr s
  | .decAbsX addr => Sys2Proof.Machine.execDecAbsX addr s
  | .bbs5 z d => Sys2Proof.Machine.execBbs5 z d s
  -- opcodes 0xEx
  | .cpxImm v => Sys2Proof.Machine.execCpxImm v s
  | .sbcZpXInd z => Sys2Proof.Machine.execSbcZpXInd z s
  | .nopE2 o => Sys2Proof.Machine.execNopE2 o s
  | .nopE3 => Sys2Proof.Machine.execNopE3 s
  | .cpxZp z => Sys2Proof.Machine.execCpxZp z s
  | .sbcZp z => Sys2Proof.Machine.execSbcZp z s
  | .incZp z => Sys2Proof.Machine.execIncZp z s
  | .smb6 z => Sys2Proof.Machine.execSmb6 z s
  | .inx => Sys2Proof.Machine.execInx s
  | .sbcImm v => Sys2Proof.Machine.execSbcImm v s
  | .nop => Sys2Proof.Machine.execNop s
  | .nopEB => Sys2Proof.Machine.execNopEB s
  | .cpxAbs addr => Sys2Proof.Machine.execCpxAbs addr s
  | .sbcAbs addr => Sys2Proof.Machine.execSbcAbs addr s
  | .incAbs addr => Sys2Proof.Machine.execIncAbs addr s
  | .bbs6 z d => Sys2Proof.Machine.execBbs6 z d s
  -- opcodes 0xFx
  | .beq d => Sys2Proof.Machine.execBeq d s
  | .sbcZpIndY z => Sys2Proof.Machine.execSbcZpIndY z s
  | .sbcZpInd z => Sys2Proof.Machine.execSbcZpInd z s
  | .nopF3 => Sys2Proof.Machine.execNopF3 s
  | .nopF4 o => Sys2Proof.Machine.execNopF4 o s
  | .sbcZpX z => Sys2Proof.Machine.execSbcZpX z s
  | .incZpX z => Sys2Proof.Machine.execIncZpX z s
  | .smb7 z => Sys2Proof.Machine.execSmb7 z s
  | .sed => Sys2Proof.Machine.execSed s
  | .sbcAbsY addr => Sys2Proof.Machine.execSbcAbsY addr s
  | .plx => Sys2Proof.Machine.execPlx s
  | .nopFB => Sys2Proof.Machine.execNopFB s
  | .nopFC o => Sys2Proof.Machine.execNopFC o s
  | .sbcAbsX addr => Sys2Proof.Machine.execSbcAbsX addr s
  | .incAbsX addr => Sys2Proof.Machine.execIncAbsX addr s
  | .bbs7 z d => Sys2Proof.Machine.execBbs7 z d s

end Sys2Proof.Machine
end

