-- ==== Sys2Proof/WellFormed.lean ====
section
/-! DEFINITION. Well-formedness. An instruction's operand fields have exactly the widths of their encodings
(R101, R102), so every term of `Instr` is well formed and there is no check to fail. A platform is well
formed when its parameters agree with one another (R57, R61, R63, R70, R76, R78); startup itself refuses
only what R415 names and a region with `lo > hi` (log 13, log 22). -/

namespace Sys2Proof

/-- Every instruction is well formed: "The decoder is total on all 256 byte values" (R107), and no field
is wider than its operand byte or bytes (R102). -/
def Instr.wellFormed (_ : Instr) : Bool := true

/-- An entry of the region table: `0 <= lo <= hi <= 0xFFFF` (R57). -/
def Region.wellFormed (r : Region) : Bool := decide (r.lo ≤ r.hi) && decide (r.hi ≤ 0xFFFF)

/-- Two regions share no address (R57). -/
def Region.disjoint (p q : Region) : Bool := decide (p.hi < q.lo) || decide (q.hi < p.lo)

/-- No two entries of the table share an address (R57). -/
def regionsDisjoint : List Region → Bool
  | [] => true
  | r :: rs => rs.all r.disjoint && regionsDisjoint rs

/-- The register at `a` lies in a region of kind `k`. -/
def Config.hasRegister (c : Config) (a : Word) (k : RegionKind) : Bool :=
  c.regions.any fun r => r.kind == k && decide (r.lo ≤ a.toNat) && decide (a.toNat ≤ r.hi)

/-- Every region of kind `k` lies within `size` bytes from `base`. -/
def Config.regionsWithin (c : Config) (k : RegionKind) (base size : Nat) : Bool :=
  c.regions.all fun r => r.kind != k || (decide (base ≤ r.lo) && decide (r.hi < base + size))

/-- The UART's two registers are distinct, lie in the UART block, and its two bits are distinct (R63, R64). -/
def Config.uartWellFormed (c : Config) : Bool :=
  c.uartStatusAddr != c.uartDataAddr && c.uartDaBit != c.uartOvrBit &&
    c.hasRegister c.uartStatusAddr .uart && c.hasRegister c.uartDataAddr .uart

/-- The keyboard's two registers are distinct and lie in the keyboard block (R70). -/
def Config.kbdWellFormed (c : Config) : Bool :=
  c.kbdRowAddr != c.kbdColAddr && c.hasRegister c.kbdRowAddr .keyboard && c.hasRegister c.kbdColAddr .keyboard

/-- The bank-select register's parameters (R61): at least one bank and at most as many as a byte can name,
the initial one among them, an image for each in canonical form, and the register and the window where the
parameters say. Without a bank register there is no region of these kinds. -/
def Config.bankWellFormed (c : Config) : Bool :=
  match c.bank with
  | none => c.regions.all fun r => r.kind != .bankReg && r.kind != .bankWindow
  | some b =>
    decide (0 < b.count) && decide (b.count ≤ 256) && decide (b.init < b.count) &&
      decide (b.images.length = b.count) && b.images.all Memory.wf &&
      c.regionsWithin .bankReg b.regAddr.toNat 1 && c.regionsWithin .bankWindow b.windowBase.toNat b.windowSize

/-- A platform whose parameters agree with one another, as the table stands at run time. -/
def Config.wellFormed (c : Config) : Bool :=
  c.regions.all Region.wellFormed && regionsDisjoint c.regions &&
    decide (0 < c.cyclesPerFrame) && c.regionsWithin .video c.videoBase.toNat c.videoSize &&
    c.uartWellFormed && c.kbdWellFormed && c.bankWellFormed

end Sys2Proof
end

