-- ==== Sys2Proof/Decode.lean ====
section
/-! DEFINITION. Decoding (R100 to R110) and encoding. The decoder is the opcode map of R103: sixteen rows, by
the high digit of the opcode, of sixteen entries, by its low digit. It is total on all 256 opcodes (R107);
a byte list is refused only where bytes are missing, by name. -/

namespace Sys2Proof

open Machine (joinBytes lo8 hi8)

/-- Why a byte list is no instruction: it is empty, or it ends before the operand bytes of its opcode. -/
inductive DecodeError where
  | noOpcode
  | missingOperand (opcode : Byte)
deriving DecidableEq, Repr

/-- Opcodes 0x00 to 0x0F (R103), from the operand bytes o1 and o2. -/
def opcodeRow0 : Vector (Byte → Byte → Instr) 16 :=
  #v[fun l _ => .brk l,
     fun l _ => .oraZpXInd l,
     fun l _ => .nop02 l,
     fun _ _ => .nop03,
     fun l _ => .tsbZp l,
     fun l _ => .oraZp l,
     fun l _ => .aslZp l,
     fun l _ => .rmb0 l,
     fun _ _ => .php,
     fun l _ => .oraImm l,
     fun _ _ => .aslAcc,
     fun _ _ => .nop0B,
     fun l h => .tsbAbs (joinBytes h l),
     fun l h => .oraAbs (joinBytes h l),
     fun l h => .aslAbs (joinBytes h l),
     fun l h => .bbr0 l h]

/-- Opcodes 0x10 to 0x1F (R103), from the operand bytes o1 and o2. -/
def opcodeRow1 : Vector (Byte → Byte → Instr) 16 :=
  #v[fun l _ => .bpl l,
     fun l _ => .oraZpIndY l,
     fun l _ => .oraZpInd l,
     fun _ _ => .nop13,
     fun l _ => .trbZp l,
     fun l _ => .oraZpX l,
     fun l _ => .aslZpX l,
     fun l _ => .rmb1 l,
     fun _ _ => .clc,
     fun l h => .oraAbsY (joinBytes h l),
     fun _ _ => .incAcc,
     fun _ _ => .nop1B,
     fun l h => .trbAbs (joinBytes h l),
     fun l h => .oraAbsX (joinBytes h l),
     fun l h => .aslAbsX (joinBytes h l),
     fun l h => .bbr1 l h]

/-- Opcodes 0x20 to 0x2F (R103), from the operand bytes o1 and o2. -/
def opcodeRow2 : Vector (Byte → Byte → Instr) 16 :=
  #v[fun l h => .jsr (joinBytes h l),
     fun l _ => .andZpXInd l,
     fun l _ => .nop22 l,
     fun _ _ => .nop23,
     fun l _ => .bitZp l,
     fun l _ => .andZp l,
     fun l _ => .rolZp l,
     fun l _ => .rmb2 l,
     fun _ _ => .plp,
     fun l _ => .andImm l,
     fun _ _ => .rolAcc,
     fun _ _ => .nop2B,
     fun l h => .bitAbs (joinBytes h l),
     fun l h => .andAbs (joinBytes h l),
     fun l h => .rolAbs (joinBytes h l),
     fun l h => .bbr2 l h]

/-- Opcodes 0x30 to 0x3F (R103), from the operand bytes o1 and o2. -/
def opcodeRow3 : Vector (Byte → Byte → Instr) 16 :=
  #v[fun l _ => .bmi l,
     fun l _ => .andZpIndY l,
     fun l _ => .andZpInd l,
     fun _ _ => .nop33,
     fun l _ => .bitZpX l,
     fun l _ => .andZpX l,
     fun l _ => .rolZpX l,
     fun l _ => .rmb3 l,
     fun _ _ => .sec,
     fun l h => .andAbsY (joinBytes h l),
     fun _ _ => .decAcc,
     fun _ _ => .nop3B,
     fun l h => .bitAbsX (joinBytes h l),
     fun l h => .andAbsX (joinBytes h l),
     fun l h => .rolAbsX (joinBytes h l),
     fun l h => .bbr3 l h]

/-- Opcodes 0x40 to 0x4F (R103), from the operand bytes o1 and o2. -/
def opcodeRow4 : Vector (Byte → Byte → Instr) 16 :=
  #v[fun _ _ => .rti,
     fun l _ => .eorZpXInd l,
     fun l _ => .nop42 l,
     fun _ _ => .nop43,
     fun l _ => .nop44 l,
     fun l _ => .eorZp l,
     fun l _ => .lsrZp l,
     fun l _ => .rmb4 l,
     fun _ _ => .pha,
     fun l _ => .eorImm l,
     fun _ _ => .lsrAcc,
     fun _ _ => .nop4B,
     fun l h => .jmpAbs (joinBytes h l),
     fun l h => .eorAbs (joinBytes h l),
     fun l h => .lsrAbs (joinBytes h l),
     fun l h => .bbr4 l h]

/-- Opcodes 0x50 to 0x5F (R103), from the operand bytes o1 and o2. -/
def opcodeRow5 : Vector (Byte → Byte → Instr) 16 :=
  #v[fun l _ => .bvc l,
     fun l _ => .eorZpIndY l,
     fun l _ => .eorZpInd l,
     fun _ _ => .nop53,
     fun l _ => .nop54 l,
     fun l _ => .eorZpX l,
     fun l _ => .lsrZpX l,
     fun l _ => .rmb5 l,
     fun _ _ => .cli,
     fun l h => .eorAbsY (joinBytes h l),
     fun _ _ => .phy,
     fun _ _ => .nop5B,
     fun l h => .nop5C (joinBytes h l),
     fun l h => .eorAbsX (joinBytes h l),
     fun l h => .lsrAbsX (joinBytes h l),
     fun l h => .bbr5 l h]

/-- Opcodes 0x60 to 0x6F (R103), from the operand bytes o1 and o2. -/
def opcodeRow6 : Vector (Byte → Byte → Instr) 16 :=
  #v[fun _ _ => .rts,
     fun l _ => .adcZpXInd l,
     fun l _ => .nop62 l,
     fun _ _ => .nop63,
     fun l _ => .stzZp l,
     fun l _ => .adcZp l,
     fun l _ => .rorZp l,
     fun l _ => .rmb6 l,
     fun _ _ => .pla,
     fun l _ => .adcImm l,
     fun _ _ => .rorAcc,
     fun _ _ => .nop6B,
     fun l h => .jmpAbsInd (joinBytes h l),
     fun l h => .adcAbs (joinBytes h l),
     fun l h => .rorAbs (joinBytes h l),
     fun l h => .bbr6 l h]

/-- Opcodes 0x70 to 0x7F (R103), from the operand bytes o1 and o2. -/
def opcodeRow7 : Vector (Byte → Byte → Instr) 16 :=
  #v[fun l _ => .bvs l,
     fun l _ => .adcZpIndY l,
     fun l _ => .adcZpInd l,
     fun _ _ => .nop73,
     fun l _ => .stzZpX l,
     fun l _ => .adcZpX l,
     fun l _ => .rorZpX l,
     fun l _ => .rmb7 l,
     fun _ _ => .sei,
     fun l h => .adcAbsY (joinBytes h l),
     fun _ _ => .ply,
     fun _ _ => .nop7B,
     fun l h => .jmpAbsXInd (joinBytes h l),
     fun l h => .adcAbsX (joinBytes h l),
     fun l h => .rorAbsX (joinBytes h l),
     fun l h => .bbr7 l h]

/-- Opcodes 0x80 to 0x8F (R103), from the operand bytes o1 and o2. -/
def opcodeRow8 : Vector (Byte → Byte → Instr) 16 :=
  #v[fun l _ => .bra l,
     fun l _ => .staZpXInd l,
     fun l _ => .nop82 l,
     fun _ _ => .nop83,
     fun l _ => .styZp l,
     fun l _ => .staZp l,
     fun l _ => .stxZp l,
     fun l _ => .smb0 l,
     fun _ _ => .dey,
     fun l _ => .bitImm l,
     fun _ _ => .txa,
     fun _ _ => .nop8B,
     fun l h => .styAbs (joinBytes h l),
     fun l h => .staAbs (joinBytes h l),
     fun l h => .stxAbs (joinBytes h l),
     fun l h => .bbs0 l h]

/-- Opcodes 0x90 to 0x9F (R103), from the operand bytes o1 and o2. -/
def opcodeRow9 : Vector (Byte → Byte → Instr) 16 :=
  #v[fun l _ => .bcc l,
     fun l _ => .staZpIndY l,
     fun l _ => .staZpInd l,
     fun _ _ => .nop93,
     fun l _ => .styZpX l,
     fun l _ => .staZpX l,
     fun l _ => .stxZpY l,
     fun l _ => .smb1 l,
     fun _ _ => .tya,
     fun l h => .staAbsY (joinBytes h l),
     fun _ _ => .txs,
     fun _ _ => .nop9B,
     fun l h => .stzAbs (joinBytes h l),
     fun l h => .staAbsX (joinBytes h l),
     fun l h => .stzAbsX (joinBytes h l),
     fun l h => .bbs1 l h]

/-- Opcodes 0xA0 to 0xAF (R103), from the operand bytes o1 and o2. -/
def opcodeRowA : Vector (Byte → Byte → Instr) 16 :=
  #v[fun l _ => .ldyImm l,
     fun l _ => .ldaZpXInd l,
     fun l _ => .ldxImm l,
     fun _ _ => .nopA3,
     fun l _ => .ldyZp l,
     fun l _ => .ldaZp l,
     fun l _ => .ldxZp l,
     fun l _ => .smb2 l,
     fun _ _ => .tay,
     fun l _ => .ldaImm l,
     fun _ _ => .tax,
     fun _ _ => .nopAB,
     fun l h => .ldyAbs (joinBytes h l),
     fun l h => .ldaAbs (joinBytes h l),
     fun l h => .ldxAbs (joinBytes h l),
     fun l h => .bbs2 l h]

/-- Opcodes 0xB0 to 0xBF (R103), from the operand bytes o1 and o2. -/
def opcodeRowB : Vector (Byte → Byte → Instr) 16 :=
  #v[fun l _ => .bcs l,
     fun l _ => .ldaZpIndY l,
     fun l _ => .ldaZpInd l,
     fun _ _ => .nopB3,
     fun l _ => .ldyZpX l,
     fun l _ => .ldaZpX l,
     fun l _ => .ldxZpY l,
     fun l _ => .smb3 l,
     fun _ _ => .clv,
     fun l h => .ldaAbsY (joinBytes h l),
     fun _ _ => .tsx,
     fun _ _ => .nopBB,
     fun l h => .ldyAbsX (joinBytes h l),
     fun l h => .ldaAbsX (joinBytes h l),
     fun l h => .ldxAbsY (joinBytes h l),
     fun l h => .bbs3 l h]

/-- Opcodes 0xC0 to 0xCF (R103), from the operand bytes o1 and o2. -/
def opcodeRowC : Vector (Byte → Byte → Instr) 16 :=
  #v[fun l _ => .cpyImm l,
     fun l _ => .cmpZpXInd l,
     fun l _ => .nopC2 l,
     fun _ _ => .nopC3,
     fun l _ => .cpyZp l,
     fun l _ => .cmpZp l,
     fun l _ => .decZp l,
     fun l _ => .smb4 l,
     fun _ _ => .iny,
     fun l _ => .cmpImm l,
     fun _ _ => .dex,
     fun _ _ => .wai,
     fun l h => .cpyAbs (joinBytes h l),
     fun l h => .cmpAbs (joinBytes h l),
     fun l h => .decAbs (joinBytes h l),
     fun l h => .bbs4 l h]

/-- Opcodes 0xD0 to 0xDF (R103), from the operand bytes o1 and o2. -/
def opcodeRowD : Vector (Byte → Byte → Instr) 16 :=
  #v[fun l _ => .bne l,
     fun l _ => .cmpZpIndY l,
     fun l _ => .cmpZpInd l,
     fun _ _ => .nopD3,
     fun l _ => .nopD4 l,
     fun l _ => .cmpZpX l,
     fun l _ => .decZpX l,
     fun l _ => .smb5 l,
     fun _ _ => .cld,
     fun l h => .cmpAbsY (joinBytes h l),
     fun _ _ => .phx,
     fun _ _ => .stp,
     fun l h => .nopDC (joinBytes h l),
     fun l h => .cmpAbsX (joinBytes h l),
     fun l h => .decAbsX (joinBytes h l),
     fun l h => .bbs5 l h]

/-- Opcodes 0xE0 to 0xEF (R103), from the operand bytes o1 and o2. -/
def opcodeRowE : Vector (Byte → Byte → Instr) 16 :=
  #v[fun l _ => .cpxImm l,
     fun l _ => .sbcZpXInd l,
     fun l _ => .nopE2 l,
     fun _ _ => .nopE3,
     fun l _ => .cpxZp l,
     fun l _ => .sbcZp l,
     fun l _ => .incZp l,
     fun l _ => .smb6 l,
     fun _ _ => .inx,
     fun l _ => .sbcImm l,
     fun _ _ => .nop,
     fun _ _ => .nopEB,
     fun l h => .cpxAbs (joinBytes h l),
     fun l h => .sbcAbs (joinBytes h l),
     fun l h => .incAbs (joinBytes h l),
     fun l h => .bbs6 l h]

/-- Opcodes 0xF0 to 0xFF (R103), from the operand bytes o1 and o2. -/
def opcodeRowF : Vector (Byte → Byte → Instr) 16 :=
  #v[fun l _ => .beq l,
     fun l _ => .sbcZpIndY l,
     fun l _ => .sbcZpInd l,
     fun _ _ => .nopF3,
     fun l _ => .nopF4 l,
     fun l _ => .sbcZpX l,
     fun l _ => .incZpX l,
     fun l _ => .smb7 l,
     fun _ _ => .sed,
     fun l h => .sbcAbsY (joinBytes h l),
     fun _ _ => .plx,
     fun _ _ => .nopFB,
     fun l h => .nopFC (joinBytes h l),
     fun l h => .sbcAbsX (joinBytes h l),
     fun l h => .incAbsX (joinBytes h l),
     fun l h => .bbs7 l h]

/-- The opcode map (R103). -/
def opcodeMap : Vector (Vector (Byte → Byte → Instr) 16) 16 :=
  #v[opcodeRow0, opcodeRow1, opcodeRow2, opcodeRow3, opcodeRow4, opcodeRow5, opcodeRow6, opcodeRow7,
     opcodeRow8, opcodeRow9, opcodeRowA, opcodeRowB, opcodeRowC, opcodeRowD, opcodeRowE, opcodeRowF]

/-- The high digit of an opcode. -/
def opcodeHigh (op : Byte) : Fin 16 := ⟨op.toNat / 16, by omega⟩

/-- The low digit of an opcode. -/
def opcodeLow (op : Byte) : Fin 16 := ⟨op.toNat % 16, by omega⟩

/-- The instruction of an opcode byte and the operand bytes o1 and o2; a row with fewer operand bytes
drops the rest (R101 to R103). -/
def decodeBytes (op o1 o2 : Byte) : Instr := ((opcodeMap.get (opcodeHigh op)).get (opcodeLow op)) o1 o2

/-- The lengths of the opcode map (R101, R103, R106), by the digits of the opcode. -/
def lengthMap : Vector (Vector Nat 16) 16 :=
  #v[#v[2, 2, 2, 1, 2, 2, 2, 2, 1, 2, 1, 1, 3, 3, 3, 3],
     #v[2, 2, 2, 1, 2, 2, 2, 2, 1, 3, 1, 1, 3, 3, 3, 3],
     #v[3, 2, 2, 1, 2, 2, 2, 2, 1, 2, 1, 1, 3, 3, 3, 3],
     #v[2, 2, 2, 1, 2, 2, 2, 2, 1, 3, 1, 1, 3, 3, 3, 3],
     #v[1, 2, 2, 1, 2, 2, 2, 2, 1, 2, 1, 1, 3, 3, 3, 3],
     #v[2, 2, 2, 1, 2, 2, 2, 2, 1, 3, 1, 1, 3, 3, 3, 3],
     #v[1, 2, 2, 1, 2, 2, 2, 2, 1, 2, 1, 1, 3, 3, 3, 3],
     #v[2, 2, 2, 1, 2, 2, 2, 2, 1, 3, 1, 1, 3, 3, 3, 3],
     #v[2, 2, 2, 1, 2, 2, 2, 2, 1, 2, 1, 1, 3, 3, 3, 3],
     #v[2, 2, 2, 1, 2, 2, 2, 2, 1, 3, 1, 1, 3, 3, 3, 3],
     #v[2, 2, 2, 1, 2, 2, 2, 2, 1, 2, 1, 1, 3, 3, 3, 3],
     #v[2, 2, 2, 1, 2, 2, 2, 2, 1, 3, 1, 1, 3, 3, 3, 3],
     #v[2, 2, 2, 1, 2, 2, 2, 2, 1, 2, 1, 1, 3, 3, 3, 3],
     #v[2, 2, 2, 1, 2, 2, 2, 2, 1, 3, 1, 1, 3, 3, 3, 3],
     #v[2, 2, 2, 1, 2, 2, 2, 2, 1, 2, 1, 1, 3, 3, 3, 3],
     #v[2, 2, 2, 1, 2, 2, 2, 2, 1, 3, 1, 1, 3, 3, 3, 3]]

/-- The length of the instruction that starts with an opcode (R101, R108). -/
def opcodeLength (op : Byte) : Nat := (lengthMap.get (opcodeHigh op)).get (opcodeLow op)

/-- The first instruction of a byte list and the bytes after it (R100, R108, R110). -/
def decode : List Byte → Except DecodeError (Instr × List Byte)
  | [] => .error .noOpcode
  | op :: rest =>
    if rest.length + 1 < opcodeLength op then .error (.missingOperand op)
    else .ok (decodeBytes op (rest.getD 0 0) (rest.getD 1 0), rest.drop (opcodeLength op - 1))

/-- The bytes of an instruction, from the encodings of R101 to R104 and R106: the opcode, then the operand
bytes, an absolute operand low byte first. -/
def encode (i : Instr) : List Byte :=
  match i with
  | .brk sig => [0x00, sig]
  | .oraZpXInd z => [0x01, z]
  | .nop02 o => [0x02, o]
  | .nop03 => [0x03]
  | .tsbZp z => [0x04, z]
  | .oraZp z => [0x05, z]
  | .aslZp z => [0x06, z]
  | .rmb0 z => [0x07, z]
  | .php => [0x08]
  | .oraImm v => [0x09, v]
  | .aslAcc => [0x0A]
  | .nop0B => [0x0B]
  | .tsbAbs addr => [0x0C, lo8 addr, hi8 addr]
  | .oraAbs addr => [0x0D, lo8 addr, hi8 addr]
  | .aslAbs addr => [0x0E, lo8 addr, hi8 addr]
  | .bbr0 z d => [0x0F, z, d]
  | .bpl d => [0x10, d]
  | .oraZpIndY z => [0x11, z]
  | .oraZpInd z => [0x12, z]
  | .nop13 => [0x13]
  | .trbZp z => [0x14, z]
  | .oraZpX z => [0x15, z]
  | .aslZpX z => [0x16, z]
  | .rmb1 z => [0x17, z]
  | .clc => [0x18]
  | .oraAbsY addr => [0x19, lo8 addr, hi8 addr]
  | .incAcc => [0x1A]
  | .nop1B => [0x1B]
  | .trbAbs addr => [0x1C, lo8 addr, hi8 addr]
  | .oraAbsX addr => [0x1D, lo8 addr, hi8 addr]
  | .aslAbsX addr => [0x1E, lo8 addr, hi8 addr]
  | .bbr1 z d => [0x1F, z, d]
  | .jsr addr => [0x20, lo8 addr, hi8 addr]
  | .andZpXInd z => [0x21, z]
  | .nop22 o => [0x22, o]
  | .nop23 => [0x23]
  | .bitZp z => [0x24, z]
  | .andZp z => [0x25, z]
  | .rolZp z => [0x26, z]
  | .rmb2 z => [0x27, z]
  | .plp => [0x28]
  | .andImm v => [0x29, v]
  | .rolAcc => [0x2A]
  | .nop2B => [0x2B]
  | .bitAbs addr => [0x2C, lo8 addr, hi8 addr]
  | .andAbs addr => [0x2D, lo8 addr, hi8 addr]
  | .rolAbs addr => [0x2E, lo8 addr, hi8 addr]
  | .bbr2 z d => [0x2F, z, d]
  | .bmi d => [0x30, d]
  | .andZpIndY z => [0x31, z]
  | .andZpInd z => [0x32, z]
  | .nop33 => [0x33]
  | .bitZpX z => [0x34, z]
  | .andZpX z => [0x35, z]
  | .rolZpX z => [0x36, z]
  | .rmb3 z => [0x37, z]
  | .sec => [0x38]
  | .andAbsY addr => [0x39, lo8 addr, hi8 addr]
  | .decAcc => [0x3A]
  | .nop3B => [0x3B]
  | .bitAbsX addr => [0x3C, lo8 addr, hi8 addr]
  | .andAbsX addr => [0x3D, lo8 addr, hi8 addr]
  | .rolAbsX addr => [0x3E, lo8 addr, hi8 addr]
  | .bbr3 z d => [0x3F, z, d]
  | .rti => [0x40]
  | .eorZpXInd z => [0x41, z]
  | .nop42 o => [0x42, o]
  | .nop43 => [0x43]
  | .nop44 o => [0x44, o]
  | .eorZp z => [0x45, z]
  | .lsrZp z => [0x46, z]
  | .rmb4 z => [0x47, z]
  | .pha => [0x48]
  | .eorImm v => [0x49, v]
  | .lsrAcc => [0x4A]
  | .nop4B => [0x4B]
  | .jmpAbs addr => [0x4C, lo8 addr, hi8 addr]
  | .eorAbs addr => [0x4D, lo8 addr, hi8 addr]
  | .lsrAbs addr => [0x4E, lo8 addr, hi8 addr]
  | .bbr4 z d => [0x4F, z, d]
  | .bvc d => [0x50, d]
  | .eorZpIndY z => [0x51, z]
  | .eorZpInd z => [0x52, z]
  | .nop53 => [0x53]
  | .nop54 o => [0x54, o]
  | .eorZpX z => [0x55, z]
  | .lsrZpX z => [0x56, z]
  | .rmb5 z => [0x57, z]
  | .cli => [0x58]
  | .eorAbsY addr => [0x59, lo8 addr, hi8 addr]
  | .phy => [0x5A]
  | .nop5B => [0x5B]
  | .nop5C o => [0x5C, lo8 o, hi8 o]
  | .eorAbsX addr => [0x5D, lo8 addr, hi8 addr]
  | .lsrAbsX addr => [0x5E, lo8 addr, hi8 addr]
  | .bbr5 z d => [0x5F, z, d]
  | .rts => [0x60]
  | .adcZpXInd z => [0x61, z]
  | .nop62 o => [0x62, o]
  | .nop63 => [0x63]
  | .stzZp z => [0x64, z]
  | .adcZp z => [0x65, z]
  | .rorZp z => [0x66, z]
  | .rmb6 z => [0x67, z]
  | .pla => [0x68]
  | .adcImm v => [0x69, v]
  | .rorAcc => [0x6A]
  | .nop6B => [0x6B]
  | .jmpAbsInd addr => [0x6C, lo8 addr, hi8 addr]
  | .adcAbs addr => [0x6D, lo8 addr, hi8 addr]
  | .rorAbs addr => [0x6E, lo8 addr, hi8 addr]
  | .bbr6 z d => [0x6F, z, d]
  | .bvs d => [0x70, d]
  | .adcZpIndY z => [0x71, z]
  | .adcZpInd z => [0x72, z]
  | .nop73 => [0x73]
  | .stzZpX z => [0x74, z]
  | .adcZpX z => [0x75, z]
  | .rorZpX z => [0x76, z]
  | .rmb7 z => [0x77, z]
  | .sei => [0x78]
  | .adcAbsY addr => [0x79, lo8 addr, hi8 addr]
  | .ply => [0x7A]
  | .nop7B => [0x7B]
  | .jmpAbsXInd addr => [0x7C, lo8 addr, hi8 addr]
  | .adcAbsX addr => [0x7D, lo8 addr, hi8 addr]
  | .rorAbsX addr => [0x7E, lo8 addr, hi8 addr]
  | .bbr7 z d => [0x7F, z, d]
  | .bra d => [0x80, d]
  | .staZpXInd z => [0x81, z]
  | .nop82 o => [0x82, o]
  | .nop83 => [0x83]
  | .styZp z => [0x84, z]
  | .staZp z => [0x85, z]
  | .stxZp z => [0x86, z]
  | .smb0 z => [0x87, z]
  | .dey => [0x88]
  | .bitImm v => [0x89, v]
  | .txa => [0x8A]
  | .nop8B => [0x8B]
  | .styAbs addr => [0x8C, lo8 addr, hi8 addr]
  | .staAbs addr => [0x8D, lo8 addr, hi8 addr]
  | .stxAbs addr => [0x8E, lo8 addr, hi8 addr]
  | .bbs0 z d => [0x8F, z, d]
  | .bcc d => [0x90, d]
  | .staZpIndY z => [0x91, z]
  | .staZpInd z => [0x92, z]
  | .nop93 => [0x93]
  | .styZpX z => [0x94, z]
  | .staZpX z => [0x95, z]
  | .stxZpY z => [0x96, z]
  | .smb1 z => [0x97, z]
  | .tya => [0x98]
  | .staAbsY addr => [0x99, lo8 addr, hi8 addr]
  | .txs => [0x9A]
  | .nop9B => [0x9B]
  | .stzAbs addr => [0x9C, lo8 addr, hi8 addr]
  | .staAbsX addr => [0x9D, lo8 addr, hi8 addr]
  | .stzAbsX addr => [0x9E, lo8 addr, hi8 addr]
  | .bbs1 z d => [0x9F, z, d]
  | .ldyImm v => [0xA0, v]
  | .ldaZpXInd z => [0xA1, z]
  | .ldxImm v => [0xA2, v]
  | .nopA3 => [0xA3]
  | .ldyZp z => [0xA4, z]
  | .ldaZp z => [0xA5, z]
  | .ldxZp z => [0xA6, z]
  | .smb2 z => [0xA7, z]
  | .tay => [0xA8]
  | .ldaImm v => [0xA9, v]
  | .tax => [0xAA]
  | .nopAB => [0xAB]
  | .ldyAbs addr => [0xAC, lo8 addr, hi8 addr]
  | .ldaAbs addr => [0xAD, lo8 addr, hi8 addr]
  | .ldxAbs addr => [0xAE, lo8 addr, hi8 addr]
  | .bbs2 z d => [0xAF, z, d]
  | .bcs d => [0xB0, d]
  | .ldaZpIndY z => [0xB1, z]
  | .ldaZpInd z => [0xB2, z]
  | .nopB3 => [0xB3]
  | .ldyZpX z => [0xB4, z]
  | .ldaZpX z => [0xB5, z]
  | .ldxZpY z => [0xB6, z]
  | .smb3 z => [0xB7, z]
  | .clv => [0xB8]
  | .ldaAbsY addr => [0xB9, lo8 addr, hi8 addr]
  | .tsx => [0xBA]
  | .nopBB => [0xBB]
  | .ldyAbsX addr => [0xBC, lo8 addr, hi8 addr]
  | .ldaAbsX addr => [0xBD, lo8 addr, hi8 addr]
  | .ldxAbsY addr => [0xBE, lo8 addr, hi8 addr]
  | .bbs3 z d => [0xBF, z, d]
  | .cpyImm v => [0xC0, v]
  | .cmpZpXInd z => [0xC1, z]
  | .nopC2 o => [0xC2, o]
  | .nopC3 => [0xC3]
  | .cpyZp z => [0xC4, z]
  | .cmpZp z => [0xC5, z]
  | .decZp z => [0xC6, z]
  | .smb4 z => [0xC7, z]
  | .iny => [0xC8]
  | .cmpImm v => [0xC9, v]
  | .dex => [0xCA]
  | .wai => [0xCB]
  | .cpyAbs addr => [0xCC, lo8 addr, hi8 addr]
  | .cmpAbs addr => [0xCD, lo8 addr, hi8 addr]
  | .decAbs addr => [0xCE, lo8 addr, hi8 addr]
  | .bbs4 z d => [0xCF, z, d]
  | .bne d => [0xD0, d]
  | .cmpZpIndY z => [0xD1, z]
  | .cmpZpInd z => [0xD2, z]
  | .nopD3 => [0xD3]
  | .nopD4 o => [0xD4, o]
  | .cmpZpX z => [0xD5, z]
  | .decZpX z => [0xD6, z]
  | .smb5 z => [0xD7, z]
  | .cld => [0xD8]
  | .cmpAbsY addr => [0xD9, lo8 addr, hi8 addr]
  | .phx => [0xDA]
  | .stp => [0xDB]
  | .nopDC o => [0xDC, lo8 o, hi8 o]
  | .cmpAbsX addr => [0xDD, lo8 addr, hi8 addr]
  | .decAbsX addr => [0xDE, lo8 addr, hi8 addr]
  | .bbs5 z d => [0xDF, z, d]
  | .cpxImm v => [0xE0, v]
  | .sbcZpXInd z => [0xE1, z]
  | .nopE2 o => [0xE2, o]
  | .nopE3 => [0xE3]
  | .cpxZp z => [0xE4, z]
  | .sbcZp z => [0xE5, z]
  | .incZp z => [0xE6, z]
  | .smb6 z => [0xE7, z]
  | .inx => [0xE8]
  | .sbcImm v => [0xE9, v]
  | .nop => [0xEA]
  | .nopEB => [0xEB]
  | .cpxAbs addr => [0xEC, lo8 addr, hi8 addr]
  | .sbcAbs addr => [0xED, lo8 addr, hi8 addr]
  | .incAbs addr => [0xEE, lo8 addr, hi8 addr]
  | .bbs6 z d => [0xEF, z, d]
  | .beq d => [0xF0, d]
  | .sbcZpIndY z => [0xF1, z]
  | .sbcZpInd z => [0xF2, z]
  | .nopF3 => [0xF3]
  | .nopF4 o => [0xF4, o]
  | .sbcZpX z => [0xF5, z]
  | .incZpX z => [0xF6, z]
  | .smb7 z => [0xF7, z]
  | .sed => [0xF8]
  | .sbcAbsY addr => [0xF9, lo8 addr, hi8 addr]
  | .plx => [0xFA]
  | .nopFB => [0xFB]
  | .nopFC o => [0xFC, lo8 o, hi8 o]
  | .sbcAbsX addr => [0xFD, lo8 addr, hi8 addr]
  | .incAbsX addr => [0xFE, lo8 addr, hi8 addr]
  | .bbs7 z d => [0xFF, z, d]

/-- The byte `k` of a number whose bit 0 is the least significant bit of byte 0. -/
def byteOfNat (w k : Nat) : Byte := BitVec.ofNat 8 (w / 256 ^ k)

/-- The bytes of the longest instruction, from the number `w` with every bit above `nbits` zero. -/
def wordBytes (nbits w : Nat) : List Byte :=
  let u := w % 2 ^ nbits
  [byteOfNat u 0, byteOfNat u 1, byteOfNat u 2]

/-- The instruction that the decoder reads from the bits of `w` (numbered as the opcode table numbers them:
byte 0 is the opcode). -/
def decodeTableWord (nbits w : Nat) : Option Instr :=
  match decode (wordBytes nbits w) with
  | .ok r => some r.1
  | .error _ => none

end Sys2Proof
end

