-- ==== Sys2Proof/Machine/Fetch.lean ====
section
/-! DEFINITION. Fetching an instruction (R12, R350). The opcode fetch is done here. An operand fetch is done
by the instruction's meaning, at the time R86 gives it, and the instruction carries the value that this
fetch returns. So the operand bytes are read ahead here, without their side effects, each in the state in
which its fetch will happen. DEDUCED (log 5). -/

namespace Sys2Proof.Machine

/-- The state in which the third byte of an instruction is fetched, from the state after the opcode fetch
(R86): JSR has pushed its return address by then (R294), BBRn and BBSn have read their zero-page byte
(R145; their opcodes are the column xF, R104), and any other instruction has only fetched the second byte. -/
def State.beforeThirdByte (op o1 : Byte) (s : State) : State :=
  if op = 0x20 then s.jsrPushed
  else if opcodeLow op = 0xF then (s.operandFetch.read8 (zext16 o1)).2
  else s.operandFetch

/-- The three bytes that the fetches of an instruction at PC return, or would return where the instruction
is shorter (R12, R86). -/
def State.fetchedBytes (s : State) : List Byte :=
  let op := s.fetch8.1
  let s₁ := s.fetch8.2
  let o1 := s₁.busValue s₁.pc
  let s₂ := s₁.beforeThirdByte op o1
  [op, o1, s₂.busValue s₂.pc]

/-- The instruction at PC, and the state after its opcode fetch, with PC at the next byte (R350). -/
def fetchInstr (s : State) : Instr × State :=
  let b := s.fetchedBytes
  (decodeBytes (b.getD 0 0) (b.getD 1 0) (b.getD 2 0), s.fetch8.2)

/-- The instruction whose bits are `w` placed at PC, in a machine that is about to fetch: running, no NMI
latched, no IRQ asserted. The bytes go into RAM or ROM storage at PC, PC + 1 and PC + 2; it stands for a
load from outside the machine (R411; log 2). -/
def State.placeInstr (s : State) (nbits w : Nat) : State :=
  let b := wordBytes nbits w
  let m₀ := s.mem.write s.pc.toNat (b.getD 0 0)
  let m₁ := m₀.write (s.pc + 1).toNat (b.getD 1 0)
  let m₂ := m₁.write (s.pc + 2).toNat (b.getD 2 0)
  { s with mem := m₂, run := .running, nmiLatch := false, irqLine := false }

end Sys2Proof.Machine
end

