-- ==== Sys2Proof/Machine/Cpu.lean ====
section
/-! DEFINITION. The CPU step of R350: idle, wake, interrupt check, or one instruction. -/

namespace Sys2Proof.Machine

/-- An idle tick: 1 cycle, no Bus access, nothing else changes (R350, R351, D4). -/
def State.idleTick (s : State) : State := s.setCycles 1

/-- The boundary of a running CPU: the NMI latch first, then the IRQ line if I is clear, then the next
instruction (R350, R354, R359). -/
def boundaryStep (s : State) : Result :=
  if s.nmiLatch then .next (State.enterInterrupt { s with nmiLatch := false } .nmi)
  else if s.irqLine && !s.flagI then .next (s.enterInterrupt .irq)
  else exec (fetchInstr s).1 (fetchInstr s).2

/-- `step()` (R350): the count it returns is left in `cycles`. -/
def cpuStep (s : State) : Result :=
  match s.run with
  | .stopped => .next s.idleTick
  | .waiting =>
    if s.nmiLatch || s.irqLine then boundaryStep (s.setRun .running) else .next s.idleTick
  | .running => boundaryStep s

/-- The driver's `frame_tick` with the count of the step just done (R371). -/
def State.afterStep (s : State) : State := s.frameTick s.cycles

end Sys2Proof.Machine
end

