-- ==== Sys2Proof/Machine/Step.lean ====
section
/-! DEFINITION. One step of the machine: the CPU step, then the frame tick with its cycle count (R371). -/

namespace Sys2Proof.Machine

/-- One iteration of the driver loop without host actions: `n <- step(); frame_tick(n)` (R350, R371; log 6).
Host actions happen between steps and are in Machine/Host.lean. -/
def step (s : State) : Host.Outcome State Fault Refusal :=
  match cpuStep s with
  | .next t => .next t.afterStep
  | .fault f => .fault f
  | .refused r => .refused r

/-- `s` with the instruction whose bits are `w` where `step` fetches next (log 2). -/
def State.withFetchWord (s : State) (nbits w : Nat) : State := s.placeInstr nbits w

end Sys2Proof.Machine
end

