-- ==== Sys2Proof/Machine/Host.lean ====
section
/-! DEFINITION. The host's side (R370 to R373): its actions between steps, one iteration of the driver loop,
and what the renderer sees. -/

namespace Sys2Proof.Machine

/-- The host's actions that change the machine (R372). -/
inductive HostAction where
  | keyEvent (row col : Fin 8) (pressed : Bool)
  | setIrq (level : Bool)
  | setNmi (level : Bool)
  | reset
deriving DecidableEq, Repr

/-- `key_event(r, c, pressed)` (R74). -/
def State.keyEvent (s : State) (row col : Fin 8) (pressed : Bool) : State :=
  { s with kbdMatrix := s.kbdMatrix.set row ((s.kbdMatrix.get row).set col pressed) }

/-- `set_irq(level)` (R36). -/
def State.setIrq (s : State) (level : Bool) : State := { s with irqLine := level }

/-- `set_nmi(level)`: a rising edge sets the latch (R35). -/
def State.setNmi (s : State) (level : Bool) : State :=
  { s with nmiLatch := s.nmiLatch || (level && !s.nmiLine), nmiLine := level }

/-- One host action (R372). -/
def State.hostAction (s : State) : HostAction → State
  | .keyEvent r c p => s.keyEvent r c p
  | .setIrq l => s.setIrq l
  | .setNmi l => s.setNmi l
  | .reset => s.resetSequence

/-- The host actions of one boundary, in order. -/
def State.hostActions (s : State) (acts : List HostAction) : State := acts.foldl State.hostAction s

/-- One iteration of the driver loop: host actions, step, frame tick (R371). -/
def iterate (acts : List HostAction) (s : State) : Result := step (s.hostActions acts)

/-- A run of the driver loop, one list of host actions for each iteration (R371). -/
def drive : List (List HostAction) → State → Result
  | [], s => .next s
  | acts :: rest, s =>
    match iterate acts s with
    | .next t => drive rest t
    | .fault f => .fault f
    | .refused r => .refused r

/-- What the renderer reads: the snapshot and the generation counter (R79, R372). -/
def State.rendererView (s : State) : Memory × Nat := (s.videoSnapshot, s.videoGen)

/-- The interrupt-latching states that persist between steps (R362). -/
inductive InterruptState where
  | idle | nmiPending | irqPending
deriving DecidableEq, Repr

/-- The interrupt-latching state of a machine (R362, D36). -/
def State.interruptState (s : State) : InterruptState :=
  if s.nmiLatch then .nmiPending
  else if s.irqLine && !s.flagI then .irqPending
  else .idle

end Sys2Proof.Machine
end

