-- ==== Sys2Proof/Machine/Startup.lean ====
section
/-! DEFINITION. Startup (R410 to R416): the loader, the UART population, the vector overrides and the
power-on state, ending in the reset sequence. All checks come before anything is built (D31). -/

namespace Sys2Proof.Machine

/-- The startup errors, the only errors there are (R415). -/
inductive StartupError where
  /-- FormatError: invalid cartridge magic or header. -/
  | formatError
  /-- IOError: a source that cannot be read. -/
  | ioError
  /-- ConfigError: overlapping regions, or an image or region past 0xFFFF. -/
  | configError
deriving DecidableEq, Repr

/-- What CART_PARSE finds in a headered cartridge (R412, D26). -/
structure CartHeader where
  load     : Word
  length   : Nat
  payload  : List Byte
  vecReset : Option Word
  vecIrq   : Option Word
  vecNmi   : Option Word
deriving DecidableEq, Repr

/-- The answer of CART_PARSE (R412). -/
inductive CartResult where
  | bad
  | ok (h : CartHeader)
deriving DecidableEq, Repr

/-- The optional cartridge: the mode flag, and its bytes where they can be read (R410). -/
structure Cartridge where
  headered : Bool
  blob     : Option (List Byte)
deriving DecidableEq, Repr

/-- The startup configuration (R410) with the parameters of R8 and the power-on draws (R41). A source that
cannot be read is `none`. -/
structure StartupInput where
  cfg        : Config
  entry      : Option (List Byte)
  cartridge  : Option Cartridge
  uartSource : Option (List Byte)
  powerOn    : PowerOn
deriving DecidableEq, Repr

/-- An image and where it goes (R412, R413). -/
structure Image where
  load  : Nat
  bytes : List Byte
deriving DecidableEq, Repr

/-- `normalize` (R68): CR LF and a lone CR become LF. -/
def normalizeNewlines : List Byte → List Byte
  | [] => []
  | [b] => [if b = 0x0D#8 then 0x0A#8 else b]
  | b :: c :: rest =>
    if b = 0x0D#8 ∧ c = 0x0A#8 then 0x0A#8 :: normalizeNewlines rest
    else if b = 0x0D#8 then 0x0A#8 :: normalizeNewlines (c :: rest)
    else b :: normalizeNewlines (c :: rest)

/-- The bytes that are offered to the queue (R67, R68). -/
def uartBytes (c : Config) (source : List Byte) : List Byte :=
  if c.uartNormalize then normalizeNewlines source else source

/-- The ROM region of an image; an empty image makes none (R413, D25), be it headerless or the payload of a
header that declares length 0 (DEDUCED, log 9). -/
def Image.region (i : Image) : List Region :=
  if i.bytes = [] then [] else [⟨i.load, i.load + i.bytes.length - 1, .rom⟩]

/-- The regions of a wired bank-select register and of its window (R61). DEDUCED (log 14). A window of size 0
makes no region and no error: DESIGN CHOICE (log 24). -/
def bankRegions (c : Config) : List Region :=
  match c.bank with
  | none => []
  | some b =>
    ⟨b.regAddr.toNat, b.regAddr.toNat, .bankReg⟩ ::
      (if b.windowSize = 0 then []
       else [⟨b.windowBase.toNat, b.windowBase.toNat + b.windowSize - 1, .bankWindow⟩])

/-- The first of the external and the header-declared vector (R414). -/
def effectiveOverride (external declared : Option Word) : Option Word :=
  match external with
  | some w => some w
  | none => declared

/-- What a cartridge gives: its image, and its header where it has one. -/
structure CartLoad where
  images : List Image
  header : Option CartHeader
deriving DecidableEq, Repr

/-- Step 2 of R411 for the bytes of a cartridge: a headered one is parsed, a bad one is FormatError, and so
is one that claims more payload than there is (D26; log 11). -/
def loadCartridge (parse : List Byte → CartResult) (c : Config) (headered : Bool) (blob : List Byte) :
    Except StartupError CartLoad :=
  if headered then
    match parse blob with
    | .bad => .error .formatError
    | .ok h =>
      if h.payload.length < h.length then .error .formatError
      else .ok ⟨[⟨h.load.toNat, h.payload.take h.length⟩], some h⟩
  else .ok ⟨[⟨c.loadAddr.toNat, blob⟩], none⟩

/-- The region table at run time: REGION_TABLE, the bank regions and the images' ROM regions (R57). -/
def runRegions (c : Config) (images : List Image) : List Region :=
  c.regions ++ bankRegions c ++ images.flatMap Image.region

/-- Steps 3 and 4 of R411: no region past 0xFFFF (R416), no overlap (R57). A REGION_TABLE entry with
`lo > hi`, which R57 excludes and for which R415 names no error, fails here too, so that it is ConfigError:
DESIGN CHOICE (log 22). -/
def regionsFit (rs : List Region) : Bool := rs.all Region.wellFormed && regionsDisjoint rs

/-- The images written into memory (R411 step 5). -/
def loadImages (m : Memory) (images : List Image) : Memory :=
  images.foldl (fun m i => m.load i.load i.bytes) m

/-- The platform at run time: the full region table and the effective overrides (R57, R414). -/
def runConfig (c : Config) (images : List Image) (h : Option CartHeader) : Config :=
  { c with
    regions := runRegions c images
    resetOverride := effectiveOverride c.resetOverride (h.bind CartHeader.vecReset)
    irqOverride := effectiveOverride c.irqOverride (h.bind CartHeader.vecIrq)
    nmiOverride := effectiveOverride c.nmiOverride (h.bind CartHeader.vecNmi) }

/-- The power-on state (R41, R401), before the reset sequence. -/
def powerOnState (c : Config) (p : PowerOn) (mem : Memory) (uart : List Byte) : State where
  cfg           := c
  a             := p.a
  x             := p.x
  y             := p.y
  sp            := p.sp
  pc            := p.pc
  flagN         := p.flagN
  flagV         := p.flagV
  flagD         := p.flagD
  flagI         := p.flagI
  flagZ         := p.flagZ
  flagC         := p.flagC
  run           := .running
  nmiLine       := false
  nmiLatch      := false
  irqLine       := false
  mem           := mem
  uartQueue     := uart.take c.uartCapacity
  uartOverrun   := decide (c.uartCapacity < uart.length)
  kbdMatrix     := Vector.replicate 8 (Vector.replicate 8 false)
  kbdRowSel     := 0x00
  videoBuf      := p.video
  videoGen      := 0
  videoSnapshot := p.video
  frameCycles   := 0
  bankSel       := match c.bank with
    | some b => b.init
    | none => 0
  cycles        := 0
  freeCount     := 0

/-- Steps 3 to 8 of R411, from the images and the UART source. The images are written over the power-on
draw, so a ROM byte of REGION_TABLE that no image fills holds the draw: DESIGN CHOICE (log 23). -/
def finishStartup (c : Config) (p : PowerOn) (images : List Image) (h : Option CartHeader)
    (source : List Byte) : Except StartupError State :=
  if regionsFit (runRegions c images) then
    .ok (powerOnState (runConfig c images h) p (loadImages p.ram images) (uartBytes c source)).resetSequence
  else .error .configError

/-- Startup (R411), with CART_PARSE as an argument (R412): an unreadable source is IOError, then a bad
cartridge is FormatError, then a region or image that overflows or overlaps is ConfigError (log 9). -/
def startup (parse : List Byte → CartResult) (inp : StartupInput) : Except StartupError State :=
  match inp.entry, inp.uartSource with
  | some entry, some source =>
    let entryImage : Image := ⟨inp.cfg.loadAddr.toNat, entry⟩
    match inp.cartridge with
    | none => finishStartup inp.cfg inp.powerOn [entryImage] none source
    | some ⟨_, none⟩ => .error .ioError
    | some ⟨headered, some blob⟩ =>
      match loadCartridge parse inp.cfg headered blob with
      | .error e => .error e
      | .ok l => finishStartup inp.cfg inp.powerOn (entryImage :: l.images) l.header source
  | _, _ => .error .ioError

end Sys2Proof.Machine
end

