-- ==== Sys2Proof/Machine/Table.lean ====
section
/-! DEFINITION. The rest of the opcode table as functions of the instruction (R103, R110): its mnemonic, its
operand mode, its cycle entry. The meanings do not use this file; statements do. -/

namespace Sys2Proof.Machine

/-- The 70 mnemonics of R103, with RMBn, SMBn, BBRn and BBSn once each, and the undefined opcodes (R106). -/
inductive Mnemonic where
  | brk
  | ora
  | undefined
  | tsb
  | asl
  | rmb (n : Fin 8)
  | php
  | bbr (n : Fin 8)
  | bpl
  | trb
  | clc
  | inc
  | jsr
  | and
  | bit
  | rol
  | plp
  | bmi
  | sec
  | dec
  | rti
  | eor
  | lsr
  | pha
  | jmp
  | bvc
  | cli
  | phy
  | rts
  | adc
  | stz
  | ror
  | pla
  | bvs
  | sei
  | ply
  | bra
  | sta
  | sty
  | stx
  | smb (n : Fin 8)
  | dey
  | txa
  | bbs (n : Fin 8)
  | bcc
  | tya
  | txs
  | ldy
  | lda
  | ldx
  | tay
  | tax
  | bcs
  | clv
  | tsx
  | cpy
  | cmp
  | iny
  | dex
  | wai
  | bne
  | cld
  | phx
  | stp
  | cpx
  | sbc
  | inx
  | nop
  | beq
  | sed
  | plx
deriving DecidableEq, Repr

/-- The mnemonic of an instruction (R103). -/
def mnemonicOf (i : Instr) : Mnemonic :=
  match i with
  | .brk _ => .brk
  | .oraZpXInd _ => .ora
  | .nop02 _ => .undefined
  | .nop03 => .undefined
  | .tsbZp _ => .tsb
  | .oraZp _ => .ora
  | .aslZp _ => .asl
  | .rmb0 _ => .rmb 0
  | .php => .php
  | .oraImm _ => .ora
  | .aslAcc => .asl
  | .nop0B => .undefined
  | .tsbAbs _ => .tsb
  | .oraAbs _ => .ora
  | .aslAbs _ => .asl
  | .bbr0 _ _ => .bbr 0
  | .bpl _ => .bpl
  | .oraZpIndY _ => .ora
  | .oraZpInd _ => .ora
  | .nop13 => .undefined
  | .trbZp _ => .trb
  | .oraZpX _ => .ora
  | .aslZpX _ => .asl
  | .rmb1 _ => .rmb 1
  | .clc => .clc
  | .oraAbsY _ => .ora
  | .incAcc => .inc
  | .nop1B => .undefined
  | .trbAbs _ => .trb
  | .oraAbsX _ => .ora
  | .aslAbsX _ => .asl
  | .bbr1 _ _ => .bbr 1
  | .jsr _ => .jsr
  | .andZpXInd _ => .and
  | .nop22 _ => .undefined
  | .nop23 => .undefined
  | .bitZp _ => .bit
  | .andZp _ => .and
  | .rolZp _ => .rol
  | .rmb2 _ => .rmb 2
  | .plp => .plp
  | .andImm _ => .and
  | .rolAcc => .rol
  | .nop2B => .undefined
  | .bitAbs _ => .bit
  | .andAbs _ => .and
  | .rolAbs _ => .rol
  | .bbr2 _ _ => .bbr 2
  | .bmi _ => .bmi
  | .andZpIndY _ => .and
  | .andZpInd _ => .and
  | .nop33 => .undefined
  | .bitZpX _ => .bit
  | .andZpX _ => .and
  | .rolZpX _ => .rol
  | .rmb3 _ => .rmb 3
  | .sec => .sec
  | .andAbsY _ => .and
  | .decAcc => .dec
  | .nop3B => .undefined
  | .bitAbsX _ => .bit
  | .andAbsX _ => .and
  | .rolAbsX _ => .rol
  | .bbr3 _ _ => .bbr 3
  | .rti => .rti
  | .eorZpXInd _ => .eor
  | .nop42 _ => .undefined
  | .nop43 => .undefined
  | .nop44 _ => .undefined
  | .eorZp _ => .eor
  | .lsrZp _ => .lsr
  | .rmb4 _ => .rmb 4
  | .pha => .pha
  | .eorImm _ => .eor
  | .lsrAcc => .lsr
  | .nop4B => .undefined
  | .jmpAbs _ => .jmp
  | .eorAbs _ => .eor
  | .lsrAbs _ => .lsr
  | .bbr4 _ _ => .bbr 4
  | .bvc _ => .bvc
  | .eorZpIndY _ => .eor
  | .eorZpInd _ => .eor
  | .nop53 => .undefined
  | .nop54 _ => .undefined
  | .eorZpX _ => .eor
  | .lsrZpX _ => .lsr
  | .rmb5 _ => .rmb 5
  | .cli => .cli
  | .eorAbsY _ => .eor
  | .phy => .phy
  | .nop5B => .undefined
  | .nop5C _ => .undefined
  | .eorAbsX _ => .eor
  | .lsrAbsX _ => .lsr
  | .bbr5 _ _ => .bbr 5
  | .rts => .rts
  | .adcZpXInd _ => .adc
  | .nop62 _ => .undefined
  | .nop63 => .undefined
  | .stzZp _ => .stz
  | .adcZp _ => .adc
  | .rorZp _ => .ror
  | .rmb6 _ => .rmb 6
  | .pla => .pla
  | .adcImm _ => .adc
  | .rorAcc => .ror
  | .nop6B => .undefined
  | .jmpAbsInd _ => .jmp
  | .adcAbs _ => .adc
  | .rorAbs _ => .ror
  | .bbr6 _ _ => .bbr 6
  | .bvs _ => .bvs
  | .adcZpIndY _ => .adc
  | .adcZpInd _ => .adc
  | .nop73 => .undefined
  | .stzZpX _ => .stz
  | .adcZpX _ => .adc
  | .rorZpX _ => .ror
  | .rmb7 _ => .rmb 7
  | .sei => .sei
  | .adcAbsY _ => .adc
  | .ply => .ply
  | .nop7B => .undefined
  | .jmpAbsXInd _ => .jmp
  | .adcAbsX _ => .adc
  | .rorAbsX _ => .ror
  | .bbr7 _ _ => .bbr 7
  | .bra _ => .bra
  | .staZpXInd _ => .sta
  | .nop82 _ => .undefined
  | .nop83 => .undefined
  | .styZp _ => .sty
  | .staZp _ => .sta
  | .stxZp _ => .stx
  | .smb0 _ => .smb 0
  | .dey => .dey
  | .bitImm _ => .bit
  | .txa => .txa
  | .nop8B => .undefined
  | .styAbs _ => .sty
  | .staAbs _ => .sta
  | .stxAbs _ => .stx
  | .bbs0 _ _ => .bbs 0
  | .bcc _ => .bcc
  | .staZpIndY _ => .sta
  | .staZpInd _ => .sta
  | .nop93 => .undefined
  | .styZpX _ => .sty
  | .staZpX _ => .sta
  | .stxZpY _ => .stx
  | .smb1 _ => .smb 1
  | .tya => .tya
  | .staAbsY _ => .sta
  | .txs => .txs
  | .nop9B => .undefined
  | .stzAbs _ => .stz
  | .staAbsX _ => .sta
  | .stzAbsX _ => .stz
  | .bbs1 _ _ => .bbs 1
  | .ldyImm _ => .ldy
  | .ldaZpXInd _ => .lda
  | .ldxImm _ => .ldx
  | .nopA3 => .undefined
  | .ldyZp _ => .ldy
  | .ldaZp _ => .lda
  | .ldxZp _ => .ldx
  | .smb2 _ => .smb 2
  | .tay => .tay
  | .ldaImm _ => .lda
  | .tax => .tax
  | .nopAB => .undefined
  | .ldyAbs _ => .ldy
  | .ldaAbs _ => .lda
  | .ldxAbs _ => .ldx
  | .bbs2 _ _ => .bbs 2
  | .bcs _ => .bcs
  | .ldaZpIndY _ => .lda
  | .ldaZpInd _ => .lda
  | .nopB3 => .undefined
  | .ldyZpX _ => .ldy
  | .ldaZpX _ => .lda
  | .ldxZpY _ => .ldx
  | .smb3 _ => .smb 3
  | .clv => .clv
  | .ldaAbsY _ => .lda
  | .tsx => .tsx
  | .nopBB => .undefined
  | .ldyAbsX _ => .ldy
  | .ldaAbsX _ => .lda
  | .ldxAbsY _ => .ldx
  | .bbs3 _ _ => .bbs 3
  | .cpyImm _ => .cpy
  | .cmpZpXInd _ => .cmp
  | .nopC2 _ => .undefined
  | .nopC3 => .undefined
  | .cpyZp _ => .cpy
  | .cmpZp _ => .cmp
  | .decZp _ => .dec
  | .smb4 _ => .smb 4
  | .iny => .iny
  | .cmpImm _ => .cmp
  | .dex => .dex
  | .wai => .wai
  | .cpyAbs _ => .cpy
  | .cmpAbs _ => .cmp
  | .decAbs _ => .dec
  | .bbs4 _ _ => .bbs 4
  | .bne _ => .bne
  | .cmpZpIndY _ => .cmp
  | .cmpZpInd _ => .cmp
  | .nopD3 => .undefined
  | .nopD4 _ => .undefined
  | .cmpZpX _ => .cmp
  | .decZpX _ => .dec
  | .smb5 _ => .smb 5
  | .cld => .cld
  | .cmpAbsY _ => .cmp
  | .phx => .phx
  | .stp => .stp
  | .nopDC _ => .undefined
  | .cmpAbsX _ => .cmp
  | .decAbsX _ => .dec
  | .bbs5 _ _ => .bbs 5
  | .cpxImm _ => .cpx
  | .sbcZpXInd _ => .sbc
  | .nopE2 _ => .undefined
  | .nopE3 => .undefined
  | .cpxZp _ => .cpx
  | .sbcZp _ => .sbc
  | .incZp _ => .inc
  | .smb6 _ => .smb 6
  | .inx => .inx
  | .sbcImm _ => .sbc
  | .nop => .nop
  | .nopEB => .undefined
  | .cpxAbs _ => .cpx
  | .sbcAbs _ => .sbc
  | .incAbs _ => .inc
  | .bbs6 _ _ => .bbs 6
  | .beq _ => .beq
  | .sbcZpIndY _ => .sbc
  | .sbcZpInd _ => .sbc
  | .nopF3 => .undefined
  | .nopF4 _ => .undefined
  | .sbcZpX _ => .sbc
  | .incZpX _ => .inc
  | .smb7 _ => .smb 7
  | .sed => .sed
  | .sbcAbsY _ => .sbc
  | .plx => .plx
  | .nopFB => .undefined
  | .nopFC _ => .undefined
  | .sbcAbsX _ => .sbc
  | .incAbsX _ => .inc
  | .bbs7 _ _ => .bbs 7

/-- The operand mode of an instruction (R103); none for the implied, stack, relative, BRK and undefined
rows, which have no operand that a mode gives. -/
def modeOf (i : Instr) : Option Mode :=
  match i with
  | .brk _ => none
  | .oraZpXInd z => some (.zpXInd z)
  | .nop02 _ => none
  | .nop03 => none
  | .tsbZp z => some (.zp z)
  | .oraZp z => some (.zp z)
  | .aslZp z => some (.zp z)
  | .rmb0 z => some (.zp z)
  | .php => none
  | .oraImm v => some (.immediate v)
  | .aslAcc => some .accumulator
  | .nop0B => none
  | .tsbAbs addr => some (.abs addr)
  | .oraAbs addr => some (.abs addr)
  | .aslAbs addr => some (.abs addr)
  | .bbr0 _ _ => none
  | .bpl _ => none
  | .oraZpIndY z => some (.zpIndY z)
  | .oraZpInd z => some (.zpInd z)
  | .nop13 => none
  | .trbZp z => some (.zp z)
  | .oraZpX z => some (.zpX z)
  | .aslZpX z => some (.zpX z)
  | .rmb1 z => some (.zp z)
  | .clc => none
  | .oraAbsY addr => some (.absY addr)
  | .incAcc => some .accumulator
  | .nop1B => none
  | .trbAbs addr => some (.abs addr)
  | .oraAbsX addr => some (.absX addr)
  | .aslAbsX addr => some (.absX addr)
  | .bbr1 _ _ => none
  | .jsr _ => none
  | .andZpXInd z => some (.zpXInd z)
  | .nop22 _ => none
  | .nop23 => none
  | .bitZp z => some (.zp z)
  | .andZp z => some (.zp z)
  | .rolZp z => some (.zp z)
  | .rmb2 z => some (.zp z)
  | .plp => none
  | .andImm v => some (.immediate v)
  | .rolAcc => some .accumulator
  | .nop2B => none
  | .bitAbs addr => some (.abs addr)
  | .andAbs addr => some (.abs addr)
  | .rolAbs addr => some (.abs addr)
  | .bbr2 _ _ => none
  | .bmi _ => none
  | .andZpIndY z => some (.zpIndY z)
  | .andZpInd z => some (.zpInd z)
  | .nop33 => none
  | .bitZpX z => some (.zpX z)
  | .andZpX z => some (.zpX z)
  | .rolZpX z => some (.zpX z)
  | .rmb3 z => some (.zp z)
  | .sec => none
  | .andAbsY addr => some (.absY addr)
  | .decAcc => some .accumulator
  | .nop3B => none
  | .bitAbsX addr => some (.absX addr)
  | .andAbsX addr => some (.absX addr)
  | .rolAbsX addr => some (.absX addr)
  | .bbr3 _ _ => none
  | .rti => none
  | .eorZpXInd z => some (.zpXInd z)
  | .nop42 _ => none
  | .nop43 => none
  | .nop44 _ => none
  | .eorZp z => some (.zp z)
  | .lsrZp z => some (.zp z)
  | .rmb4 z => some (.zp z)
  | .pha => none
  | .eorImm v => some (.immediate v)
  | .lsrAcc => some .accumulator
  | .nop4B => none
  | .jmpAbs addr => some (.abs addr)
  | .eorAbs addr => some (.abs addr)
  | .lsrAbs addr => some (.abs addr)
  | .bbr4 _ _ => none
  | .bvc _ => none
  | .eorZpIndY z => some (.zpIndY z)
  | .eorZpInd z => some (.zpInd z)
  | .nop53 => none
  | .nop54 _ => none
  | .eorZpX z => some (.zpX z)
  | .lsrZpX z => some (.zpX z)
  | .rmb5 z => some (.zp z)
  | .cli => none
  | .eorAbsY addr => some (.absY addr)
  | .phy => none
  | .nop5B => none
  | .nop5C _ => none
  | .eorAbsX addr => some (.absX addr)
  | .lsrAbsX addr => some (.absX addr)
  | .bbr5 _ _ => none
  | .rts => none
  | .adcZpXInd z => some (.zpXInd z)
  | .nop62 _ => none
  | .nop63 => none
  | .stzZp z => some (.zp z)
  | .adcZp z => some (.zp z)
  | .rorZp z => some (.zp z)
  | .rmb6 z => some (.zp z)
  | .pla => none
  | .adcImm v => some (.immediate v)
  | .rorAcc => some .accumulator
  | .nop6B => none
  | .jmpAbsInd addr => some (.absInd addr)
  | .adcAbs addr => some (.abs addr)
  | .rorAbs addr => some (.abs addr)
  | .bbr6 _ _ => none
  | .bvs _ => none
  | .adcZpIndY z => some (.zpIndY z)
  | .adcZpInd z => some (.zpInd z)
  | .nop73 => none
  | .stzZpX z => some (.zpX z)
  | .adcZpX z => some (.zpX z)
  | .rorZpX z => some (.zpX z)
  | .rmb7 z => some (.zp z)
  | .sei => none
  | .adcAbsY addr => some (.absY addr)
  | .ply => none
  | .nop7B => none
  | .jmpAbsXInd addr => some (.absXInd addr)
  | .adcAbsX addr => some (.absX addr)
  | .rorAbsX addr => some (.absX addr)
  | .bbr7 _ _ => none
  | .bra _ => none
  | .staZpXInd z => some (.zpXInd z)
  | .nop82 _ => none
  | .nop83 => none
  | .styZp z => some (.zp z)
  | .staZp z => some (.zp z)
  | .stxZp z => some (.zp z)
  | .smb0 z => some (.zp z)
  | .dey => none
  | .bitImm v => some (.immediate v)
  | .txa => none
  | .nop8B => none
  | .styAbs addr => some (.abs addr)
  | .staAbs addr => some (.abs addr)
  | .stxAbs addr => some (.abs addr)
  | .bbs0 _ _ => none
  | .bcc _ => none
  | .staZpIndY z => some (.zpIndY z)
  | .staZpInd z => some (.zpInd z)
  | .nop93 => none
  | .styZpX z => some (.zpX z)
  | .staZpX z => some (.zpX z)
  | .stxZpY z => some (.zpY z)
  | .smb1 z => some (.zp z)
  | .tya => none
  | .staAbsY addr => some (.absY addr)
  | .txs => none
  | .nop9B => none
  | .stzAbs addr => some (.abs addr)
  | .staAbsX addr => some (.absX addr)
  | .stzAbsX addr => some (.absX addr)
  | .bbs1 _ _ => none
  | .ldyImm v => some (.immediate v)
  | .ldaZpXInd z => some (.zpXInd z)
  | .ldxImm v => some (.immediate v)
  | .nopA3 => none
  | .ldyZp z => some (.zp z)
  | .ldaZp z => some (.zp z)
  | .ldxZp z => some (.zp z)
  | .smb2 z => some (.zp z)
  | .tay => none
  | .ldaImm v => some (.immediate v)
  | .tax => none
  | .nopAB => none
  | .ldyAbs addr => some (.abs addr)
  | .ldaAbs addr => some (.abs addr)
  | .ldxAbs addr => some (.abs addr)
  | .bbs2 _ _ => none
  | .bcs _ => none
  | .ldaZpIndY z => some (.zpIndY z)
  | .ldaZpInd z => some (.zpInd z)
  | .nopB3 => none
  | .ldyZpX z => some (.zpX z)
  | .ldaZpX z => some (.zpX z)
  | .ldxZpY z => some (.zpY z)
  | .smb3 z => some (.zp z)
  | .clv => none
  | .ldaAbsY addr => some (.absY addr)
  | .tsx => none
  | .nopBB => none
  | .ldyAbsX addr => some (.absX addr)
  | .ldaAbsX addr => some (.absX addr)
  | .ldxAbsY addr => some (.absY addr)
  | .bbs3 _ _ => none
  | .cpyImm v => some (.immediate v)
  | .cmpZpXInd z => some (.zpXInd z)
  | .nopC2 _ => none
  | .nopC3 => none
  | .cpyZp z => some (.zp z)
  | .cmpZp z => some (.zp z)
  | .decZp z => some (.zp z)
  | .smb4 z => some (.zp z)
  | .iny => none
  | .cmpImm v => some (.immediate v)
  | .dex => none
  | .wai => none
  | .cpyAbs addr => some (.abs addr)
  | .cmpAbs addr => some (.abs addr)
  | .decAbs addr => some (.abs addr)
  | .bbs4 _ _ => none
  | .bne _ => none
  | .cmpZpIndY z => some (.zpIndY z)
  | .cmpZpInd z => some (.zpInd z)
  | .nopD3 => none
  | .nopD4 _ => none
  | .cmpZpX z => some (.zpX z)
  | .decZpX z => some (.zpX z)
  | .smb5 z => some (.zp z)
  | .cld => none
  | .cmpAbsY addr => some (.absY addr)
  | .phx => none
  | .stp => none
  | .nopDC _ => none
  | .cmpAbsX addr => some (.absX addr)
  | .decAbsX addr => some (.absX addr)
  | .bbs5 _ _ => none
  | .cpxImm v => some (.immediate v)
  | .sbcZpXInd z => some (.zpXInd z)
  | .nopE2 _ => none
  | .nopE3 => none
  | .cpxZp z => some (.zp z)
  | .sbcZp z => some (.zp z)
  | .incZp z => some (.zp z)
  | .smb6 z => some (.zp z)
  | .inx => none
  | .sbcImm v => some (.immediate v)
  | .nop => none
  | .nopEB => none
  | .cpxAbs addr => some (.abs addr)
  | .sbcAbs addr => some (.abs addr)
  | .incAbs addr => some (.abs addr)
  | .bbs6 _ _ => none
  | .beq _ => none
  | .sbcZpIndY z => some (.zpIndY z)
  | .sbcZpInd z => some (.zpInd z)
  | .nopF3 => none
  | .nopF4 _ => none
  | .sbcZpX z => some (.zpX z)
  | .incZpX z => some (.zpX z)
  | .smb7 z => some (.zp z)
  | .sed => none
  | .sbcAbsY addr => some (.absY addr)
  | .plx => none
  | .nopFB => none
  | .nopFC _ => none
  | .sbcAbsX addr => some (.absX addr)
  | .incAbsX addr => some (.absX addr)
  | .bbs7 _ _ => none

/-- The base cycles of the opcode table (R430), by the digits of the opcode. -/
def cycleMap : Vector (Vector Nat 16) 16 :=
  #v[#v[7, 6, 2, 1, 5, 3, 5, 5, 3, 2, 2, 1, 6, 4, 6, 5],
     #v[2, 5, 5, 1, 5, 4, 6, 5, 2, 4, 2, 1, 6, 4, 6, 5],
     #v[6, 6, 2, 1, 3, 3, 5, 5, 4, 2, 2, 1, 4, 4, 6, 5],
     #v[2, 5, 5, 1, 4, 4, 6, 5, 2, 4, 2, 1, 4, 4, 6, 5],
     #v[6, 6, 2, 1, 3, 3, 5, 5, 3, 2, 2, 1, 3, 4, 6, 5],
     #v[2, 5, 5, 1, 4, 4, 6, 5, 2, 4, 3, 1, 8, 4, 6, 5],
     #v[6, 6, 2, 1, 3, 3, 5, 5, 4, 2, 2, 1, 6, 4, 6, 5],
     #v[2, 5, 5, 1, 4, 4, 6, 5, 2, 4, 4, 1, 6, 4, 6, 5],
     #v[3, 6, 2, 1, 3, 3, 3, 5, 2, 2, 2, 1, 4, 4, 4, 5],
     #v[2, 6, 5, 1, 4, 4, 4, 5, 2, 5, 2, 1, 4, 5, 5, 5],
     #v[2, 6, 2, 1, 3, 3, 3, 5, 2, 2, 2, 1, 4, 4, 4, 5],
     #v[2, 5, 5, 1, 4, 4, 4, 5, 2, 4, 2, 1, 4, 4, 4, 5],
     #v[2, 6, 2, 1, 3, 3, 5, 5, 2, 2, 2, 3, 4, 4, 6, 5],
     #v[2, 5, 5, 1, 4, 4, 6, 5, 2, 4, 3, 3, 4, 4, 7, 5],
     #v[2, 6, 2, 1, 3, 3, 5, 5, 2, 2, 2, 1, 4, 4, 6, 5],
     #v[2, 5, 5, 1, 4, 4, 6, 5, 2, 4, 4, 1, 4, 4, 7, 5]]

/-- Whether a row has the penalty `page_cross+1` and is no branch (R431): the read instructions and the
shifts and rotates in the modes abs,X, abs,Y and (zp),Y, but not stores, INC and DEC. -/
def pagePenalty (i : Instr) : Bool :=
  match modeOf i with
  | some (.absX _) | some (.absY _) | some (.zpIndY _) =>
    !(mnemonicOf i ∈ [.sta, .stz, .inc, .dec])
  | _ => false

/-- Whether a row has the penalty `decimal+1` (R433): ADC and SBC. -/
def decimalPenalty (i : Instr) : Bool := mnemonicOf i ∈ [.adc, .sbc]

/-- The opcode byte of an instruction. -/
def opcodeOf (i : Instr) : Byte := (encode i).headD 0

/-- The cycle entry of an instruction's row (R430). -/
def costOf (i : Instr) : Cost :=
  ⟨(cycleMap.get (opcodeHigh (opcodeOf i))).get (opcodeLow (opcodeOf i)), pagePenalty i, decimalPenalty i⟩

end Sys2Proof.Machine
end

