-- ==== Sys2Proof/Safety.lean ====
section
/-! DEFINITION. What counts as a safe run, and the terms in which statements speak: the invariant of every
reachable state, what an operand access gives, what one store does and leaves alone, and what an entry
through a vector does. -/

namespace Sys2Proof.Machine

/-- A run is safe when it ends in a state: no fault and no refusal (R350). -/
def Safe (r : Result) : Prop := ∃ t, r = .next t

/-- Every address of a memory is below `n`. -/
def memoryBelow (m : Memory) (n : Nat) : Prop := ∀ c ∈ m, c.1 < n

/-- The invariant of every state that startup, steps and host actions reach: the platform's parameters
agree (WellFormed), the memories are canonical and the video ones within VIDEO_SIZE (R76), the UART queue
is within its capacity (R69), the selected bank exists (R61), and less than a frame is accumulated (R78). -/
structure Inv (s : State) : Prop where
  platform : s.cfg.wellFormed = true
  memCanonical : s.mem.wf = true
  videoCanonical : s.videoBuf.wf = true
  snapshotCanonical : s.videoSnapshot.wf = true
  videoBounded : memoryBelow s.videoBuf s.cfg.videoSize
  snapshotBounded : memoryBelow s.videoSnapshot s.cfg.videoSize
  queueBounded : s.uartQueue.length ≤ s.cfg.uartCapacity
  bankExists : ∀ b, s.cfg.bank = some b → s.bankSel < b.count
  frameOpen : s.frameCycles < s.cfg.cyclesPerFrame

/-- The stored memories are in canonical form; every state with `Inv` is so. -/
def State.canonical (s : State) : Prop := s.mem.wf = true ∧ s.videoBuf.wf = true

/-- What the CPU and the Bus can see of a state: all but the frame machinery and the returned count
(R42, R435). -/
def State.cpuView (s : State) : State :=
  { s with videoGen := 0, videoSnapshot := [], frameCycles := 0, cycles := 0 }

/-- How many operand bytes a mode has (R101). -/
def Mode.size : Mode → Nat
  | .accumulator => 0
  | .immediate _ | .zp _ | .zpX _ | .zpY _ | .zpXInd _ | .zpIndY _ | .zpInd _ => 1
  | .abs _ | .absX _ | .absY _ | .absInd _ | .absXInd _ => 2

/-- The value that `ReadM()` returns after the mode is resolved (R147). -/
def operandValue (m : Mode) (s : State) : Byte := (readM (resolve m s).1 (resolve m s).2).1

/-- The state after the mode is resolved and `ReadM()` is done. -/
def afterOperand (m : Mode) (s : State) : State := (readM (resolve m s).1 (resolve m s).2).2

/-- The state after the mode is resolved, with no operand read. -/
def afterAddress (m : Mode) (s : State) : State := (resolve m s).2

/-- The address that `WriteM` stores to; none for the accumulator and an immediate (R147). -/
def storeAddr (m : Mode) (s : State) : Option Word :=
  match (resolve m s).1.loc with
  | .mem ea => some ea
  | _ => none

/-- The cycle count of an instruction with mode `m` (R430, R431, R433). -/
def cycleCount (i : Instr) (m : Mode) (s : State) : Nat := (costOf i).total (resolve m s).1.crossed s.flagD

/-- `u` is `s` after `n` more bytes of its instruction are fetched and its operand is read: PC has moved,
the UART queue may have lost bytes (R62), nothing else has changed. -/
def OnlyRead (s u : State) (n : Nat) : Prop :=
  u = { s with pc := s.pc + BitVec.ofNat 16 n, uartQueue := u.uartQueue } ∧ u.uartQueue <:+ s.uartQueue

/-- `t` is `s` after one store of `v` at `ea`: the value is where the region of `ea` keeps it (R55, R71,
R76, R61), no other byte of memory and no other place has changed (R58, R59, R66, R72), and every field
that no store can reach is as before. -/
structure Stored (s t : State) (ea : Word) (v : Byte) : Prop where
  ram : s.regionAt ea = some .ram → t.mem.read ea.toNat = v
  video : s.regionAt ea = some .video → t.videoBuf.read (s.videoOffset ea) = v
  rowSelect : s.regionAt ea = some .keyboard →
    t.kbdRowSel = if ea = s.cfg.kbdRowAddr then v else s.kbdRowSel
  bankSelect : s.regionAt ea = some .bankReg → t.bankSel = s.bankSelect v
  otherBytes : ∀ b, b ≠ ea.toNat → t.mem.read b = s.mem.read b
  otherVideo : ∀ b, b ≠ s.videoOffset ea → t.videoBuf.read b = s.videoBuf.read b
  notRam : s.regionAt ea ≠ some .ram → t.mem = s.mem
  notVideo : s.regionAt ea ≠ some .video → t.videoBuf = s.videoBuf
  notKeyboard : s.regionAt ea ≠ some .keyboard → t.kbdRowSel = s.kbdRowSel
  notBank : s.regionAt ea ≠ some .bankReg → t.bankSel = s.bankSel
  rest : t = { s with
    mem := t.mem, videoBuf := t.videoBuf, kbdRowSel := t.kbdRowSel, bankSel := t.bankSel }

/-- The whole stack page is RAM (R60: the CPU gives it no special backing). -/
def State.stackIsRam (s : State) : Prop := ∀ p : Byte, s.regionAt (stackAddr p) = some .ram

/-- `t` differs from `s` at most in the fields that pushes, pulls, fetches and vector reads can reach, and
in the flags, SP, PC and the cycle count. -/
def OnlyControl (s t : State) : Prop :=
  t = { s with
    sp := t.sp, pc := t.pc, flagN := t.flagN, flagV := t.flagV, flagD := t.flagD, flagI := t.flagI,
    flagZ := t.flagZ, flagC := t.flagC, mem := t.mem, videoBuf := t.videoBuf, kbdRowSel := t.kbdRowSel,
    bankSel := t.bankSel, uartQueue := t.uartQueue, cycles := t.cycles }

/-- The six flags of two states agree. -/
def SameFlags (s t : State) : Prop :=
  t.flagN = s.flagN ∧ t.flagV = s.flagV ∧ t.flagD = s.flagD ∧ t.flagI = s.flagI ∧ t.flagZ = s.flagZ ∧
    t.flagC = s.flagC

/-- A byte that the Bus serves from storage or as unmapped, so that no read or store elsewhere changes it. -/
def State.plainAt (s : State) (a : Word) : Prop :=
  s.regionAt a = none ∨ s.regionAt a = some .ram ∨ s.regionAt a = some .rom

/-- The state after the three pushes of an entry: PC high, PC low, the flag byte (R355). -/
def State.entryPushed (s : State) (b : Bool) : State :=
  ((s.push8 (hi8 s.pc)).push8 (lo8 s.pc)).push8 (s.pByte b)

/-- `t` is `s` after an entry through vector `k` with break bit `b` (R355, R356, R296): three bytes pushed,
I set, D cleared, PC from the override or from the two bytes at the vector; where the stack is RAM, the
three stack bytes hold PC high, PC low and the flag byte, and nothing else is stored. Bit 4 of the flag byte
is `b`, bit 5 is set, and the others are the flags (R33). With an override no bus read is made (R356). -/
structure VectorEntered (s t : State) (k : VectorKind) (b : Bool) : Prop where
  sp : t.sp = s.sp - 3
  flagI : t.flagI = true
  flagD : t.flagD = false
  flagN : t.flagN = s.flagN
  flagV : t.flagV = s.flagV
  flagZ : t.flagZ = s.flagZ
  flagC : t.flagC = s.flagC
  flagByte : (s.pByte b).getLsbD 7 = s.flagN ∧ (s.pByte b).getLsbD 6 = s.flagV ∧
    (s.pByte b).getLsbD 5 = true ∧ (s.pByte b).getLsbD 4 = b ∧ (s.pByte b).getLsbD 3 = s.flagD ∧
    (s.pByte b).getLsbD 2 = s.flagI ∧ (s.pByte b).getLsbD 1 = s.flagZ ∧ (s.pByte b).getLsbD 0 = s.flagC
  override : ∀ w, k.override s.cfg = some w → t.pc = w ∧ t.uartQueue = s.uartQueue
  vector : k.override s.cfg = none → t.pc = ((s.entryPushed b).read16 k.addr).1 ∧
    t.uartQueue = ((s.entryPushed b).read16 k.addr).2.uartQueue
  queue : t.uartQueue <:+ s.uartQueue
  plainVector : k.override s.cfg = none → s.plainAt k.addr → s.plainAt (k.addr + 1) →
    t.pc = joinBytes (s.busValue (k.addr + 1)) (s.busValue k.addr) ∧ t.uartQueue = s.uartQueue
  stores : t.mem = (s.entryPushed b).mem ∧ t.videoBuf = (s.entryPushed b).videoBuf ∧
    t.kbdRowSel = (s.entryPushed b).kbdRowSel ∧ t.bankSel = (s.entryPushed b).bankSel
  pushed : s.stackIsRam → s.canonical →
    t.mem.read (stackAddr s.sp).toNat = hi8 s.pc ∧
    t.mem.read (stackAddr (s.sp - 1)).toNat = lo8 s.pc ∧
    t.mem.read (stackAddr (s.sp - 2)).toNat = s.pByte b
  otherBytes : ∀ n, n ≠ (stackAddr s.sp).toNat → n ≠ (stackAddr (s.sp - 1)).toNat →
    n ≠ (stackAddr (s.sp - 2)).toNat → t.mem.read n = s.mem.read n
  otherPlaces : s.stackIsRam → t.videoBuf = s.videoBuf ∧ t.kbdRowSel = s.kbdRowSel ∧ t.bankSel = s.bankSel
  rest : OnlyControl s t

/-- An address is in a region of the table (R57: inclusive at both ends). -/
def regionCovers (r : Region) (n : Nat) : Prop := r.lo ≤ n ∧ n ≤ r.hi

/-- An address holds a byte of an image (R412, R413). -/
def Image.covers (i : Image) (n : Nat) : Prop := i.load ≤ n ∧ n < i.load + i.bytes.length

/-- The images that startup loads and the header it follows (R411 to R413, D31): the entry binary at
LOAD_ADDR, then a headerless cartridge at LOAD_ADDR, or the declared bytes of a headered one at its own
address. -/
def LoadsImages (parse : List Byte → CartResult) (inp : StartupInput) (images : List Image)
    (h : Option CartHeader) : Prop :=
  ∃ e, inp.entry = some e ∧
    ((inp.cartridge = none ∧ images = [⟨inp.cfg.loadAddr.toNat, e⟩] ∧ h = none) ∨
    (∃ blob, inp.cartridge = some ⟨false, some blob⟩ ∧
      images = [⟨inp.cfg.loadAddr.toNat, e⟩, ⟨inp.cfg.loadAddr.toNat, blob⟩] ∧ h = none) ∨
    (∃ blob g, inp.cartridge = some ⟨true, some blob⟩ ∧ parse blob = .ok g ∧ g.length ≤ g.payload.length ∧
      images = [⟨inp.cfg.loadAddr.toNat, e⟩, ⟨g.load.toNat, g.payload.take g.length⟩] ∧ h = some g))

/-- The images or the region table are in error (R57, R411 steps 3 and 4, R416): an image or a region past
0xFFFF, two regions that share an address, an image over a region, or two images that share an address. -/
def BadLayout (c : Config) (images : List Image) : Prop :=
  (∃ i ∈ images, 0x10000 < i.load + i.bytes.length) ∨
  (∃ r ∈ c.regions ++ bankRegions c, 0xFFFF < r.hi) ∨
  regionsDisjoint (c.regions ++ bankRegions c) = false ∨
  (∃ i ∈ images, ∃ r ∈ c.regions ++ bankRegions c, ∃ n, i.covers n ∧ regionCovers r n) ∨
  (∃ i j n, images = [i, j] ∧ i.covers n ∧ j.covers n)

/-- `s` is the state that startup leaves (R401, R41 and R400): the draws, the images as ROM (R412, R413),
elsewhere the regions of REGION_TABLE and of the bank register (R57, log 14), the effective overrides (R414), the queue (R67 to R69), and every peripheral at its power-on value. -/
structure StartedFrom (inp : StartupInput) (images : List Image) (h : Option CartHeader) (source : List Byte)
    (s : State) : Prop where
  registers : s.a = inp.powerOn.a ∧ s.x = inp.powerOn.x ∧ s.y = inp.powerOn.y ∧ s.sp = inp.powerOn.sp - 3
  flags : s.flagN = inp.powerOn.flagN ∧ s.flagV = inp.powerOn.flagV ∧ s.flagD = inp.powerOn.flagD ∧
    s.flagI = true ∧ s.flagZ = inp.powerOn.flagZ ∧ s.flagC = inp.powerOn.flagC
  override : ∀ w, s.cfg.resetOverride = some w → s.pc = w
  vector : s.cfg.resetOverride = none → s.pc = (s.read16 0xFFFC).1
  inputs : s.run = .running ∧ s.nmiLatch = false ∧ s.nmiLine = false ∧ s.irqLine = false
  romBytes : inp.powerOn.ram.wf = true → ∀ i ∈ images, ∀ k < i.bytes.length,
    s.regionAt (BitVec.ofNat 16 (i.load + k)) = some .rom ∧
    s.busValue (BitVec.ofNat 16 (i.load + k)) = i.bytes.getD k 0
  otherBytes : ∀ n, (∀ i ∈ images, ¬ i.covers n) → s.mem.read n = inp.powerOn.ram.read n
  mapped : ∀ a : Word, (∀ i ∈ images, ¬ i.covers a.toNat) →
    s.regionAt a = lookupRegion (inp.cfg.regions ++ bankRegions inp.cfg) a
  regionsFormed : s.cfg.regions.all Region.wellFormed = true
  regionsApart : regionsDisjoint s.cfg.regions = true
  overrides : s.cfg.resetOverride = inp.cfg.resetOverride.or (h.bind CartHeader.vecReset) ∧
    s.cfg.irqOverride = inp.cfg.irqOverride.or (h.bind CartHeader.vecIrq) ∧
    s.cfg.nmiOverride = inp.cfg.nmiOverride.or (h.bind CartHeader.vecNmi)
  parameters : s.cfg = { inp.cfg with
    regions := s.cfg.regions, resetOverride := s.cfg.resetOverride, irqOverride := s.cfg.irqOverride
    nmiOverride := s.cfg.nmiOverride }
  queue : s.uartQueue = (uartBytes inp.cfg source).take inp.cfg.uartCapacity
  overrun : s.uartOverrun = decide (inp.cfg.uartCapacity < (uartBytes inp.cfg source).length)
  keyboard : s.kbdMatrix = Vector.replicate 8 (Vector.replicate 8 false) ∧ s.kbdRowSel = 0x00
  video : s.videoBuf = inp.powerOn.video ∧ s.videoSnapshot = inp.powerOn.video ∧ s.videoGen = 0 ∧
    s.frameCycles = 0
  bank : ∀ b, inp.cfg.bank = some b → s.bankSel = b.init

/-- The value of a valid BCD byte (R204). -/
def bcdValue (b : Byte) : Nat := 10 * (b.toNat / 16) + b.toNat % 16

end Sys2Proof.Machine
end

