-- ==== Sys2Proof/Certificates/Slice0/Obligations.lean ====
section
/-! DEFINITION. The statements for the provers. Each docstring says which rule of the spec it formalises; a
clause that rests on a choice of the model says so. `s` stands, for a statement about `exec`, right after
the opcode fetch, with PC at the next byte (40_addressing). -/

open Sys2Proof Sys2Proof.Machine

/-! ## Encoding -/

/-- Decoding the encoding of a well-formed instruction gives it back, with every operand at every value, and
leaves the bytes after it (R100 to R104, R106). -/
def Obligations.DecodeOfEncodeIsTheInstruction : Prop :=
  ∀ (i : Instr) (rest : List Byte), i.wellFormed = true → decode (encode i ++ rest) = .ok (i, rest)

/-- The bytes that decode to an instruction are its encoding: no two encodings share an instruction and no
bit is dropped (R101, R108). -/
def Obligations.EncodeOfDecodeIsTheBytes : Prop :=
  ∀ (bs rest : List Byte) (i : Instr), decode bs = .ok (i, rest) → bs = encode i ++ rest

/-- "The decoder is total on all 256 byte values" (R107): an opcode with its operand bytes decodes to an
instruction with that opcode, of 1, 2 or 3 bytes (R100); it is refused exactly where bytes are missing. -/
def Obligations.DecoderIsTotalOnOpcodes : Prop :=
  ∀ (op : Byte) (rest : List Byte),
    1 ≤ opcodeLength op ∧ opcodeLength op ≤ 3 ∧
    (opcodeLength op ≤ rest.length + 1 →
      ∃ i, decode (op :: rest) = .ok (i, rest.drop (opcodeLength op - 1)) ∧ opcodeOf i = op ∧
        (encode i).length = opcodeLength op) ∧
    (rest.length + 1 < opcodeLength op → decode (op :: rest) = .error (.missingOperand op))

/-- Words written out from R101 to R104 and R106, for every family of the opcode table. -/
def Obligations.WrittenOutWordsDecode : Prop :=
  decode [0xBD, 0x34, 0x12] = .ok (.ldaAbsX 0x1234, []) ∧
  decode [0x91, 0x10] = .ok (.staZpIndY 0x10, []) ∧
  decode [0xDA] = .ok (.phx, []) ∧
  decode [0x72, 0x40] = .ok (.adcZpInd 0x40, []) ∧
  decode [0x89, 0x0F] = .ok (.bitImm 0x0F, []) ∧
  decode [0xF7, 0x40] = .ok (.smb7 0x40, []) ∧
  decode [0x0F, 0x50, 0x03] = .ok (.bbr0 0x50 0x03, []) ∧
  decode [0x7C, 0x00, 0x20] = .ok (.jmpAbsXInd 0x2000, []) ∧
  decode [0x00, 0xEE] = .ok (.brk 0xEE, []) ∧
  decode [0xCB] = .ok (.wai, []) ∧
  decode [0x5C, 0x34, 0x12] = .ok (.nop5C 0x1234, []) ∧
  decode [0x20, 0x34] = .error (.missingOperand 0x20)

/-! ## The step -/

/-- When the bytes at PC decode to an instruction, and the CPU is running with no interrupt to take, the step
is that instruction's `exec` after the opcode fetch, then the frame tick with its cycles (R350, R371). -/
def Obligations.StepRunsTheDecodedInstruction : Prop :=
  ∀ (s : State) (i : Instr) (rest : List Byte),
    s.run = .running → s.nmiLatch = false → (s.irqLine && !s.flagI) = false →
    decode s.fetchedBytes = .ok (i, rest) →
    s.fetch8.2.pc = s.pc + 1 ∧
    step s = match exec i s.fetch8.2 with
      | .next t => .next (t.frameTick t.cycles)
      | .fault f => .fault f
      | .refused r => .refused r

/-- Where the three bytes at PC are storage, the bytes fetched are those that memory holds, whatever stored
them: "A store is seen by every later fetch at once" (R84). JSR fetches its third byte after its pushes
(R294). -/
def Obligations.FetchSeesMemory : Prop :=
  ∀ s : State,
    (∀ k : Nat, k < 3 → s.regionAt (s.pc + BitVec.ofNat 16 k) = some .ram ∨
      s.regionAt (s.pc + BitVec.ofNat 16 k) = some .rom) →
    (s.mem.read s.pc.toNat ≠ 0x20 →
      s.fetchedBytes =
        [s.mem.read s.pc.toNat, s.mem.read (s.pc + 1).toNat, s.mem.read (s.pc + 2).toNat]) ∧
    (s.mem.read s.pc.toNat = 0x20 →
      s.fetchedBytes =
        [0x20, s.mem.read (s.pc + 1).toNat, s.fetch8.2.jsrPushed.mem.read (s.pc + 2).toNat])

/-- Every instruction, in every state, answers a next state, and none changes what belongs to the host or to
startup (R67, R81, R107). -/
def Obligations.EveryInstructionCompletes : Prop :=
  ∀ (i : Instr) (s : State), ∃ t, exec i s = .next t ∧
    t.cfg = s.cfg ∧ t.nmiLine = s.nmiLine ∧ t.nmiLatch = s.nmiLatch ∧ t.irqLine = s.irqLine ∧
    t.uartOverrun = s.uartOverrun ∧ t.kbdMatrix = s.kbdMatrix ∧ t.videoGen = s.videoGen ∧
    t.videoSnapshot = s.videoSnapshot ∧ t.frameCycles = s.frameCycles ∧ t.uartQueue <:+ s.uartQueue

/-- "The step never fails. It has no fault outcome and no refusal outcome." (R350). -/
def Obligations.StepNeverFails : Prop := ∀ s : State, Safe (step s)

/-- The cycle count of every row that is no branch is the table's, plus 1 for a page crossing and plus 1 in
decimal mode where the row says so (R430, R431, R433); a row without an operand mode has no penalty. -/
def Obligations.CyclesFollowTheTable : Prop :=
  ∀ (i : Instr) (s : State),
    ¬ (mnemonicOf i ∈ [.bpl, .bmi, .bvc, .bvs, .bcc, .bcs, .bne, .beq, .bra] ∨
      ∃ n, mnemonicOf i = .bbr n ∨ mnemonicOf i = .bbs n) →
    ∃ t, exec i s = .next t ∧
      (∀ m, modeOf i = some m →
        t.cycles = (costOf i).base + (if pagePenalty i && (resolve m s).1.crossed then 1 else 0) +
          (if decimalPenalty i && s.flagD then 1 else 0)) ∧
      (modeOf i = none → t.cycles = (costOf i).base)

/-! ## Invariants -/

/-- The state after reset has the invariant. What the spec leaves open in that state is the model's choice
(logs 1 to 4). -/
def Obligations.ResetStateHasInvariant : Prop := Inv State.reset

/-- Every step keeps the invariant: platform, canonical memories, bounds (R61, R69, R76, R78). -/
def Obligations.StepKeepsInvariant : Prop := ∀ s t : State, Inv s → step s = .next t → Inv t

/-- Every host action keeps the invariant (R372, R373). -/
def Obligations.HostActionsKeepInvariant : Prop :=
  ∀ (s : State) (acts : List HostAction), Inv s → Inv (s.hostActions acts)

/-- Startup leaves a state with the invariant, whatever the sources and the power-on draws (R401, R411), on a
platform whose parameters agree. -/
def Obligations.StartupGivesInvariant : Prop :=
  ∀ (parse : List Byte → CartResult) (inp : StartupInput) (s : State),
    startup parse inp = .ok s → s.cfg.wellFormed = true →
    inp.powerOn.ram.wf = true → inp.powerOn.video.wf = true → memoryBelow inp.powerOn.video inp.cfg.videoSize →
    Inv s

/-- `State.reset` is what startup leaves on TEST_MAP with an empty entry binary, no cartridge, no UART byte
and all draws zero. The model's choice (logs 1 to 4). -/
def Obligations.ResetIsStartupOnTestMap : Prop :=
  ∀ parse : List Byte → CartResult,
    startup parse ⟨Config.testMap, some [], none, some [], PowerOn.zero⟩ = .ok State.reset

/-! ## The whole machine -/

/-- "A write targeting the cartridge/ROM region after load is a no-op; a subsequent read at that address
returns the original loaded byte." (R59): over any run of the driver loop, with any host actions. -/
def Obligations.RomNeverChanges : Prop :=
  ∀ (acts : List (List HostAction)) (s t : State) (a : Word),
    drive acts s = .next t → s.regionAt a = some .rom →
    t.regionAt a = some .rom ∧ t.busValue a = s.busValue a

/-- What a Bus write does (R55, R58, R59, R66, R71, R76, R61), and that it changes what no other address
reads, but for COL after a write of ROWSEL and for the window after a write of the bank register (R62). -/
def Obligations.WriteChangesOnlyItsByte : Prop :=
  ∀ (s : State) (ea : Word) (v : Byte), Inv s →
    Stored s (s.write8 ea v) ea v ∧
    (s.regionAt ea = none → (s.write8 ea v) = s ∧ s.busValue ea = 0x00) ∧
    (s.regionAt ea = some .ram ∨ s.regionAt ea = some .video → (s.write8 ea v).busValue ea = v) ∧
    (∀ b, b ≠ ea → ¬ (ea = s.cfg.kbdRowAddr ∧ b = s.cfg.kbdColAddr) →
      ¬ (s.regionAt ea = some .bankReg ∧ s.regionAt b = some .bankWindow) →
      (s.write8 ea v).busValue b = s.busValue b)

/-- The frame machinery never reaches the CPU (R42, R435): two states that differ only in `video_gen`,
`video_snapshot`, `frame_cycles` and the returned count run alike under the same host actions. -/
def Obligations.FramesNeverReachTheCpu : Prop :=
  ∀ (acts : List (List HostAction)) (s s' t t' : State),
    s.cpuView = s'.cpuView → drive acts s = .next t → drive acts s' = .next t' → t.cpuView = t'.cpuView

/-- Which instructions may change D, I, V and C (R27 to R29, R31, R326), and `run` (R34). -/
def Obligations.FlagsChangeOnlyByTheirInstructions : Prop :=
  ∀ (i : Instr) (s t : State), exec i s = .next t →
    (t.flagD ≠ s.flagD → mnemonicOf i ∈ [.sed, .cld, .plp, .rti, .brk]) ∧
    (t.flagI ≠ s.flagI → mnemonicOf i ∈ [.sei, .cli, .plp, .rti, .brk]) ∧
    (t.flagV ≠ s.flagV → mnemonicOf i ∈ [.adc, .sbc, .bit, .clv, .plp, .rti]) ∧
    (t.flagC ≠ s.flagC → mnemonicOf i ∈
      [.adc, .sbc, .cmp, .cpx, .cpy, .asl, .lsr, .rol, .ror, .clc, .sec, .plp, .rti]) ∧
    (t.run ≠ s.run → mnemonicOf i ∈ [.wai, .stp])

/-- Which instructions may change A, X, Y and SP (R21 to R23). -/
def Obligations.RegistersChangeOnlyByTheirInstructions : Prop :=
  ∀ (i : Instr) (s t : State), exec i s = .next t →
    (t.a ≠ s.a → mnemonicOf i ∈ [.lda, .adc, .sbc, .and, .ora, .eor, .txa, .tya, .pla] ∨
      (modeOf i = some .accumulator ∧ mnemonicOf i ∈ [.asl, .lsr, .rol, .ror, .inc, .dec])) ∧
    (t.x ≠ s.x → mnemonicOf i ∈ [.ldx, .tax, .tsx, .plx, .inx, .dex]) ∧
    (t.y ≠ s.y → mnemonicOf i ∈ [.ldy, .tay, .ply, .iny, .dey]) ∧
    (t.sp ≠ s.sp → mnemonicOf i ∈
      [.txs, .pha, .php, .phx, .phy, .pla, .plp, .plx, .ply, .jsr, .rts, .brk, .rti])

/-- A stopped machine only idles, for any number of steps: nothing changes but the frame machinery, which
counts one cycle a step (R332, R360, D4). -/
def Obligations.StoppedMachineOnlyIdles : Prop :=
  ∀ (n : Nat) (s : State), s.run = .stopped → Inv s →
    ∃ t, core.run n s = .next t ∧ t.cpuView = s.cpuView ∧
      t.videoGen * s.cfg.cyclesPerFrame + t.frameCycles = s.videoGen * s.cfg.cyclesPerFrame + s.frameCycles + n

/-! ## Interrupts and reset -/

/-- While waiting (R351): an idle tick of 1 cycle where nothing is pending; otherwise the step is the one a
running CPU would make, so a masked IRQ wakes the CPU and the next instruction runs. -/
def Obligations.WaitingIdlesOrWakes : Prop :=
  ∀ s : State, s.run = .waiting →
    ((s.nmiLatch || s.irqLine) = false → step s = .next ((s.setCycles 1).frameTick 1)) ∧
    ((s.nmiLatch || s.irqLine) = true → step s = step (s.setRun .running)) ∧
    (s.nmiLatch = false → s.irqLine = true → s.flagI = true →
      cpuStep s = exec (fetchInstr (s.setRun .running)).1 (fetchInstr (s.setRun .running)).2)

/-- Taking an interrupt (R354, R355, R356, R359): a latched NMI first, unconditionally, clearing the latch;
then an asserted IRQ with I clear. The entry costs 7 cycles and executes no instruction. -/
def Obligations.InterruptEntry : Prop :=
  ∀ s : State, s.run = .running →
    (s.nmiLatch = true → ∃ t, cpuStep s = .next t ∧ t.nmiLatch = false ∧ t.cycles = 7 ∧
      VectorEntered { s with nmiLatch := false } t .nmi false) ∧
    (s.nmiLatch = false → s.irqLine = true → s.flagI = false →
      ∃ t, cpuStep s = .next t ∧ t.nmiLatch = false ∧ t.cycles = 7 ∧ VectorEntered s t .irq false)

/-- The NMI input is edge-triggered (R35): a rising edge latches, a held line latches nothing more, several
edges leave one latch, and nothing else changes. -/
def Obligations.NmiIsEdgeTriggered : Prop :=
  ∀ (s : State) (level : Bool),
    s.setNmi level = { s with nmiLine := level, nmiLatch := (s.setNmi level).nmiLatch } ∧
    (level = true → s.nmiLine = false → (s.setNmi level).nmiLatch = true) ∧
    (s.nmiLine = true → (s.setNmi level).nmiLatch = s.nmiLatch) ∧
    (level = false → (s.setNmi level).nmiLatch = s.nmiLatch) ∧
    (s.setNmi level).setNmi level = s.setNmi level

/-- BRK (R296): the entry through the IRQ vector with B set, with PC past the signature byte, whatever I is. -/
def Obligations.BrkEntersThroughIrqVector : Prop :=
  ∀ (sig : Byte) (s : State), ∃ t, exec (.brk sig) s = .next t ∧ t.cycles = 7 ∧
    OnlyRead s s.operandFetch 1 ∧ VectorEntered s.operandFetch t .irq true

/-- RTI (R297): the six flags from the pulled byte, bits 5 and 4 ignored, then PC low and high with no + 1.
Nothing is stored and nothing else changes. -/
def Obligations.RtiRestoresFlagsAndPc : Prop :=
  ∀ s : State, ∃ t, exec .rti s = .next t ∧
    t.flagN = s.pull8.1.getLsbD 7 ∧ t.flagV = s.pull8.1.getLsbD 6 ∧ t.flagD = s.pull8.1.getLsbD 3 ∧
    t.flagI = s.pull8.1.getLsbD 2 ∧ t.flagZ = s.pull8.1.getLsbD 1 ∧ t.flagC = s.pull8.1.getLsbD 0 ∧
    t.pc = joinBytes s.pull8.2.pull8.2.pull8.1 s.pull8.2.pull8.1 ∧
    t.sp = s.sp + 3 ∧ t.cycles = 6 ∧ t.mem = s.mem ∧ t.videoBuf = s.videoBuf ∧
    t.kbdRowSel = s.kbdRowSel ∧ t.bankSel = s.bankSel ∧ OnlyControl s t

/-- A BRK followed by an RTI comes back behind the signature byte with the flags and SP as they were
(R109, R296, R297), where the stack is RAM. -/
def Obligations.RtiUndoesBrk : Prop :=
  ∀ (sig : Byte) (s t : State), s.stackIsRam → s.canonical → exec (.brk sig) s = .next t →
    ∃ u, exec .rti t = .next u ∧ u.pc = s.pc + 1 ∧ u.sp = s.sp ∧ SameFlags s u ∧
      u.a = s.a ∧ u.x = s.x ∧ u.y = s.y ∧ u.run = s.run

/-- The reset sequence (R400): SP less 3 with nothing written, I set, run Running, the latch cleared, PC from
RESET_OVERRIDE or the vector; D, memory, every peripheral and everything else unchanged. No other host action
changes the run state. R400 states both the Read16 and the unchanged peripherals; log 21 says where they
meet. -/
def Obligations.ResetSequence : Prop :=
  ∀ s : State,
    (∀ act, act ≠ .reset → (s.hostAction act).run = s.run) ∧
    (s.hostAction .reset).flagI = true ∧ (s.hostAction .reset).sp = s.sp - 3 ∧
    (s.hostAction .reset).run = .running ∧ (s.hostAction .reset).nmiLatch = false ∧
    (∀ w, s.cfg.resetOverride = some w → (s.hostAction .reset).pc = w) ∧
    (s.cfg.resetOverride = none → (s.hostAction .reset).pc = (s.read16 0xFFFC).1) ∧
    (s.hostAction .reset).uartQueue = s.uartQueue ∧
    s.hostAction .reset = { s with
      sp := s.sp - 3, flagI := true, run := .running, nmiLatch := false, pc := (s.hostAction .reset).pc }

/-! ## Operands -/

/-- The effective address of every mode that has one (R133 to R143), from the index registers and the
pointer bytes read through the Bus, low byte first. `f` and `g` are the states after one and two operand
fetches. A page is crossed (R146) exactly where the address of abs,X, abs,Y or (zp),Y lies in another page
than its base; no other mode crosses one. -/
def Obligations.EffectiveAddresses : Prop :=
  ∀ (s : State) (z : Byte) (w : Word),
    let f := s.operandFetch
    let g := s.operandFetch.operandFetch
    let base := joinBytes ((f.read8 (zext16 z)).2.busValue (zext16 (z + 1))) (f.busValue (zext16 z))
    storeAddr (.zp z) s = some (zext16 z) ∧
    storeAddr (.zpX z) s = some (zext16 (z + s.x)) ∧
    storeAddr (.zpY z) s = some (zext16 (z + s.y)) ∧
    storeAddr (.zpXInd z) s = some (joinBytes
      ((f.read8 (zext16 (z + s.x))).2.busValue (zext16 (z + s.x + 1))) (f.busValue (zext16 (z + s.x)))) ∧
    storeAddr (.zpInd z) s = some base ∧
    storeAddr (.zpIndY z) s = some (base + zext16 s.y) ∧
    storeAddr (.abs w) s = some w ∧
    storeAddr (.absX w) s = some (w + zext16 s.x) ∧
    storeAddr (.absY w) s = some (w + zext16 s.y) ∧
    storeAddr (.absInd w) s = some (joinBytes ((g.read8 w).2.busValue (w + 1)) (g.busValue w)) ∧
    storeAddr (.absXInd w) s = some (joinBytes
      ((g.read8 (w + zext16 s.x)).2.busValue (w + zext16 s.x + 1)) (g.busValue (w + zext16 s.x))) ∧
    ((resolve (.zpIndY z) s).1.crossed = true ↔ hi8 base ≠ hi8 (base + zext16 s.y)) ∧
    ((resolve (.absX w) s).1.crossed = true ↔ hi8 w ≠ hi8 (w + zext16 s.x)) ∧
    ((resolve (.absY w) s).1.crossed = true ↔ hi8 w ≠ hi8 (w + zext16 s.y)) ∧
    ∀ m : Mode, (∀ v, m ≠ .zpIndY v) → (∀ v, m ≠ .absX v) → (∀ v, m ≠ .absY v) →
      (resolve m s).1.crossed = false

/-- Computing an address and reading an operand change PC, which moves past the operand bytes, and at most
the UART queue (R24, R62, R147); the value is the immediate, A, or the byte the Bus gives at ea. -/
def Obligations.OperandAccessChangesOnlyPcAndQueue : Prop :=
  ∀ (m : Mode) (s : State),
    OnlyRead s (afterAddress m s) m.size ∧ OnlyRead s (afterOperand m s) m.size ∧
    (m = .accumulator → operandValue m s = s.a) ∧
    (∀ v, m = .immediate v → operandValue m s = v) ∧
    (∀ ea, storeAddr m s = some ea → operandValue m s = (afterAddress m s).busValue ea)

/-! ## Loads, stores, transfers, stack -/

/-- LDA, LDX, LDY (R160 to R162): the register and N and Z from the operand; nothing else but PC, the UART
queue if the read popped it, and the cycle count. -/
def Obligations.LoadsSetRegisterNZ : Prop :=
  ∀ (i : Instr) (m : Mode) (s : State), modeOf i = some m →
    OnlyRead s (afterOperand m s) m.size ∧
    (mnemonicOf i = .lda → exec i s = .next { afterOperand m s with
      a := operandValue m s, flagN := (operandValue m s).getLsbD 7, flagZ := operandValue m s == 0
      cycles := cycleCount i m s }) ∧
    (mnemonicOf i = .ldx → exec i s = .next { afterOperand m s with
      x := operandValue m s, flagN := (operandValue m s).getLsbD 7, flagZ := operandValue m s == 0
      cycles := cycleCount i m s }) ∧
    (mnemonicOf i = .ldy → exec i s = .next { afterOperand m s with
      y := operandValue m s, flagN := (operandValue m s).getLsbD 7, flagZ := operandValue m s == 0
      cycles := cycleCount i m s })

/-- STA, STX, STY, STZ (R163 to R166): one store at ea of the register or of zero, with no read of ea; no
register and no flag changes, and no byte but the one stored to. Every form has a store address. -/
def Obligations.StoresWriteOneByte : Prop :=
  ∀ (i : Instr) (m : Mode) (s : State), s.canonical → modeOf i = some m →
    let stores (v : Byte) : Prop :=
      ∃ t ea, exec i s = .next t ∧ storeAddr m s = some ea ∧
        Stored { afterAddress m s with cycles := (costOf i).base } t ea v
    OnlyRead s (afterAddress m s) m.size ∧
    (mnemonicOf i = .sta → stores s.a) ∧
    (mnemonicOf i = .stx → stores s.x) ∧
    (mnemonicOf i = .sty → stores s.y) ∧
    (mnemonicOf i = .stz → stores 0x00)

/-- The register transfers (R167 to R172) and the index steps (R215 to R218): the destination and, but for
TXS, N and Z; nothing else but the cycle count. -/
def Obligations.TransfersAndIndexSteps : Prop :=
  ∀ s : State,
    exec .tax s = .next { s with x := s.a, flagN := s.a.getLsbD 7, flagZ := s.a == 0, cycles := 2 } ∧
    exec .tay s = .next { s with y := s.a, flagN := s.a.getLsbD 7, flagZ := s.a == 0, cycles := 2 } ∧
    exec .txa s = .next { s with a := s.x, flagN := s.x.getLsbD 7, flagZ := s.x == 0, cycles := 2 } ∧
    exec .tya s = .next { s with a := s.y, flagN := s.y.getLsbD 7, flagZ := s.y == 0, cycles := 2 } ∧
    exec .tsx s = .next { s with x := s.sp, flagN := s.sp.getLsbD 7, flagZ := s.sp == 0, cycles := 2 } ∧
    exec .txs s = .next { s with sp := s.x, cycles := 2 } ∧
    exec .inx s = .next { s with
      x := s.x + 1, flagN := (s.x + 1).getLsbD 7, flagZ := s.x + 1 == 0, cycles := 2 } ∧
    exec .iny s = .next { s with
      y := s.y + 1, flagN := (s.y + 1).getLsbD 7, flagZ := s.y + 1 == 0, cycles := 2 } ∧
    exec .dex s = .next { s with
      x := s.x - 1, flagN := (s.x - 1).getLsbD 7, flagZ := s.x - 1 == 0, cycles := 2 } ∧
    exec .dey s = .next { s with
      y := s.y - 1, flagN := (s.y - 1).getLsbD 7, flagZ := s.y - 1 == 0, cycles := 2 }

/-- PHA, PHP, PHX, PHY (R173 to R176): the byte is stored at 0x0100 + SP and SP goes down by one, wrapping in
page 1; PHP pushes the flags with bits 5 and 4 set. Nothing else changes. -/
def Obligations.PushesStoreAtStackPointer : Prop :=
  ∀ s : State, s.canonical →
    (∃ t, exec .pha s = .next t ∧ Stored { s with sp := s.sp - 1, cycles := 3 } t (stackAddr s.sp) s.a) ∧
    (∃ t, exec .phx s = .next t ∧ Stored { s with sp := s.sp - 1, cycles := 3 } t (stackAddr s.sp) s.x) ∧
    (∃ t, exec .phy s = .next t ∧ Stored { s with sp := s.sp - 1, cycles := 3 } t (stackAddr s.sp) s.y) ∧
    (∃ t, exec .php s = .next t ∧
      Stored { s with sp := s.sp - 1, cycles := 3 } t (stackAddr s.sp) (s.pByte true)) ∧
    (s.pByte true).getLsbD 7 = s.flagN ∧ (s.pByte true).getLsbD 6 = s.flagV ∧
    (s.pByte true).getLsbD 5 = true ∧ (s.pByte true).getLsbD 4 = true ∧
    (s.pByte true).getLsbD 3 = s.flagD ∧ (s.pByte true).getLsbD 2 = s.flagI ∧
    (s.pByte true).getLsbD 1 = s.flagZ ∧ (s.pByte true).getLsbD 0 = s.flagC

/-- PLA, PLX, PLY, PLP (R177 to R180): SP goes up by one and the byte at 0x0100 + SP is read; N and Z from it,
or all six flags for PLP, with bits 5 and 4 ignored. Nothing is stored. -/
def Obligations.PullsReadAtStackPointer : Prop :=
  ∀ s : State,
    let v := s.busValue (stackAddr (s.sp + 1))
    let q := s.queueAfterRead (stackAddr (s.sp + 1))
    exec .pla s = .next { s with
      a := v, flagN := v.getLsbD 7, flagZ := v == 0, sp := s.sp + 1, uartQueue := q, cycles := 4 } ∧
    exec .plx s = .next { s with
      x := v, flagN := v.getLsbD 7, flagZ := v == 0, sp := s.sp + 1, uartQueue := q, cycles := 4 } ∧
    exec .ply s = .next { s with
      y := v, flagN := v.getLsbD 7, flagZ := v == 0, sp := s.sp + 1, uartQueue := q, cycles := 4 } ∧
    exec .plp s = .next { s with
      flagN := v.getLsbD 7, flagV := v.getLsbD 6, flagD := v.getLsbD 3, flagI := v.getLsbD 2
      flagZ := v.getLsbD 1, flagC := v.getLsbD 0, sp := s.sp + 1, uartQueue := q, cycles := 4 }

/-! ## Arithmetic -/

/-- Binary addition and subtraction over the integers (R203, R207): the sum, the carry out or the no-borrow,
and V exactly where the signed sum or difference leaves -128 to 127. -/
def Obligations.BinaryArithmeticIsExact : Prop :=
  ∀ (a m : Byte) (c : Bool),
    (binAdd a m c).r.toNat + (if (binAdd a m c).c then 256 else 0) = a.toNat + m.toNat + c.toNat ∧
    ((binAdd a m c).v = true ↔
      a.toInt + m.toInt + c.toNat < -128 ∨ 127 < a.toInt + m.toInt + c.toNat) ∧
    (binSub a m c).r = a - m - (if c then 0 else 1) ∧
    ((binSub a m c).c = true ↔ (0 : Int) ≤ (a.toNat : Int) - m.toNat - (if c then 0 else 1)) ∧
    ((binSub a m c).v = true ↔
      a.toInt - m.toInt - (if c then 0 else 1) < -128 ∨ 127 < a.toInt - m.toInt - (if c then 0 else 1))

/-- "For valid BCD operands (a, m) the decimal functions give the BCD sum or difference, with C as the decimal
carry or the no-borrow" (R204). For every operand, valid BCD or not (DECIMAL_NONBCD = clark), the results,
carries and V are those of R205 and R208 over the integers: V of an addition is set exactly where the sum of
the sign-extended high digits and the adjusted low digit leaves -128 to 127; C and V of a subtraction are
those of binary mode. -/
def Obligations.DecimalArithmeticIsBcd : Prop :=
  (∀ (a m : Byte) (c : Bool), validBcd a = true → validBcd m = true →
    validBcd (decAdd a m c).r = true ∧ validBcd (decSub a m c).r = true ∧
    bcdValue (decAdd a m c).r + (if (decAdd a m c).c then 100 else 0) =
      bcdValue a + bcdValue m + c.toNat ∧
    bcdValue (decSub a m c).r + bcdValue m + (if c then 0 else 1) =
      bcdValue a + (if (decSub a m c).c then 0 else 100)) ∧
  (∀ (a m : Byte) (c : Bool),
    let low := a.toNat % 16 + m.toNat % 16 + c.toNat
    let adjusted := if 10 ≤ low then (low + 6) % 16 + 16 else low
    let sum := 16 * (a.toNat / 16) + 16 * (m.toNat / 16) + adjusted
    let total := if 160 ≤ sum then sum + 96 else sum
    let signed : Int := 16 * (a.toInt / 16) + 16 * (m.toInt / 16) + adjusted
    (decAdd a m c).r.toNat = total % 256 ∧ ((decAdd a m c).c = true ↔ 256 ≤ total) ∧
    ((decAdd a m c).v = true ↔ signed < -128 ∨ 127 < signed)) ∧
  (∀ (a m : Byte) (c : Bool),
    let low : Int := (a.toNat % 16 : Nat) - (m.toNat % 16 : Nat) + c.toNat - 1
    let difference : Int := (a.toNat : Int) - m.toNat + c.toNat - 1
    let high := if difference < 0 then difference - 96 else difference
    let total := if low < 0 then high - 6 else high
    ((decSub a m c).r.toNat : Int) = total % 256 ∧
    (decSub a m c).c = (binSub a m c).c ∧ (decSub a m c).v = (binSub a m c).v)

/-- ADC and SBC (R202, R204, R206): the binary functions where D is clear, the decimal ones where it is set;
A, C, V, and N and Z from A. Under DECIMAL_NONBCD = draw, operands that are not valid BCD give free values
(log 8). Nothing else changes but PC, the UART queue, the cycle count and, with a draw, its counter. -/
def Obligations.AddAndSubtract : Prop :=
  ∀ (i : Instr) (m : Mode) (s : State), modeOf i = some m →
    let u := afterOperand m s
    let v := operandValue m s
    let result (o : AluOut) : State := { u with
      a := o.r, flagC := o.c, flagV := o.v, flagN := o.r.getLsbD 7, flagZ := o.r == 0
      cycles := cycleCount i m s }
    let draws := s.flagD = true ∧ s.cfg.decimalNonBcd = .draw ∧ ¬ (validBcd s.a = true ∧ validBcd v = true)
    let drawn : State := { u with
      a := Config.freeDecimalA s.freeCount, flagN := Config.freeDecimalN s.freeCount
      flagV := Config.freeDecimalV s.freeCount, flagZ := Config.freeDecimalZ s.freeCount
      flagC := Config.freeDecimalC s.freeCount, freeCount := s.freeCount + 1, cycles := cycleCount i m s }
    OnlyRead s u m.size ∧
    (mnemonicOf i = .adc →
      (draws → exec i s = .next drawn) ∧
      (¬ draws → s.flagD = true → exec i s = .next (result (decAdd s.a v s.flagC))) ∧
      (s.flagD = false → exec i s = .next (result (binAdd s.a v s.flagC)))) ∧
    (mnemonicOf i = .sbc →
      (draws → exec i s = .next drawn) ∧
      (¬ draws → s.flagD = true → exec i s = .next (result (decSub s.a v s.flagC))) ∧
      (s.flagD = false → exec i s = .next (result (binSub s.a v s.flagC))))

/-- CMP, CPX, CPY (R209 to R212): C where the register is not below the operand, Z where they are equal, N from
bit 7 of the difference; no register, no memory, no other flag. -/
def Obligations.ComparesSetNZC : Prop :=
  ∀ (i : Instr) (m : Mode) (s : State), modeOf i = some m →
    let u := afterOperand m s
    let v := operandValue m s
    let result (r : Byte) : State := { u with
      flagC := decide (v.toNat ≤ r.toNat), flagZ := decide (r = v), flagN := (r - v).getLsbD 7
      cycles := cycleCount i m s }
    OnlyRead s u m.size ∧
    (mnemonicOf i = .cmp → exec i s = .next (result s.a)) ∧
    (mnemonicOf i = .cpx → exec i s = .next (result s.x)) ∧
    (mnemonicOf i = .cpy → exec i s = .next (result s.y))

/-- INC and DEC (R213, R214): the byte plus or minus 1, modulo 256, in A or stored at ea; N and Z from it; C, V
and every other flag and register unchanged. -/
def Obligations.IncrementAndDecrement : Prop :=
  ∀ (i : Instr) (m : Mode) (s : State), s.canonical → modeOf i = some m →
    let u := afterOperand m s
    let result (r : Byte) : State := { u with
      flagN := r.getLsbD 7, flagZ := r == 0, cycles := cycleCount i m s }
    OnlyRead s u m.size ∧
    (mnemonicOf i = .inc → ∃ t, exec i s = .next t ∧
      (m = .accumulator → t = { result (s.a + 1) with a := s.a + 1 }) ∧
      (m ≠ .accumulator → ∃ ea, storeAddr m s = some ea ∧
        Stored (result (operandValue m s + 1)) t ea (operandValue m s + 1))) ∧
    (mnemonicOf i = .dec → ∃ t, exec i s = .next t ∧
      (m = .accumulator → t = { result (s.a - 1) with a := s.a - 1 }) ∧
      (m ≠ .accumulator → ∃ ea, storeAddr m s = some ea ∧
        Stored (result (operandValue m s - 1)) t ea (operandValue m s - 1)))

/-! ## Logic, bit test, shifts, bit manipulation -/

/-- AND, ORA, EOR (R240 to R242): A, and N and Z from it; nothing else. -/
def Obligations.LogicSetsANZ : Prop :=
  ∀ (i : Instr) (m : Mode) (s : State), modeOf i = some m →
    let u := afterOperand m s
    let v := operandValue m s
    let result (r : Byte) : State := { u with
      a := r, flagN := r.getLsbD 7, flagZ := r == 0, cycles := cycleCount i m s }
    OnlyRead s u m.size ∧
    (mnemonicOf i = .and → exec i s = .next (result (s.a &&& v))) ∧
    (mnemonicOf i = .ora → exec i s = .next (result (s.a ||| v))) ∧
    (mnemonicOf i = .eor → exec i s = .next (result (s.a ^^^ v)))

/-- BIT (R243): Z from A and M; N and V from bits 7 and 6 of M for the memory forms, unchanged for the
immediate form; nothing else. -/
def Obligations.BitTestsFlags : Prop :=
  ∀ (i : Instr) (m : Mode) (s : State), mnemonicOf i = .bit → modeOf i = some m →
    let u := afterOperand m s
    let v := operandValue m s
    OnlyRead s u m.size ∧
    ((∃ w, m = .immediate w) → exec i s = .next { u with
      flagZ := s.a &&& v == 0, cycles := cycleCount i m s }) ∧
    ((∀ w, m ≠ .immediate w) → exec i s = .next { u with
      flagZ := s.a &&& v == 0, flagN := v.getLsbD 7, flagV := v.getLsbD 6, cycles := cycleCount i m s })

/-- TSB and TRB (R244, R245): Z from A and M before the write, then M with A's bits set or cleared is stored at
ea; A and the other flags unchanged. -/
def Obligations.TestAndSetOrReset : Prop :=
  ∀ (i : Instr) (m : Mode) (s : State), s.canonical → modeOf i = some m →
    let v := operandValue m s
    let u : State := { afterOperand m s with flagZ := s.a &&& v == 0, cycles := (costOf i).base }
    OnlyRead s (afterOperand m s) m.size ∧
    (mnemonicOf i = .tsb → ∃ t ea, exec i s = .next t ∧ storeAddr m s = some ea ∧ Stored u t ea (v ||| s.a)) ∧
    (mnemonicOf i = .trb → ∃ t ea, exec i s = .next t ∧ storeAddr m s = some ea ∧ Stored u t ea (v &&& ~~~s.a))

/-- ASL, LSR, ROL, ROR (R246 to R249): every bit of the result, C from the bit that leaves, N and Z from the
result, in A or stored at ea; nothing else. -/
def Obligations.ShiftsAndRotates : Prop :=
  ∀ (i : Instr) (m : Mode) (s : State), s.canonical → modeOf i = some m →
    let u := afterOperand m s
    let v := operandValue m s
    let ends (r : Byte) (c : Bool) : Prop :=
      let w : State := { u with
        flagC := c, flagN := r.getLsbD 7, flagZ := r == 0, cycles := cycleCount i m s }
      ∃ t, exec i s = .next t ∧ (m = .accumulator → t = { w with a := r }) ∧
        (m ≠ .accumulator → ∃ ea, storeAddr m s = some ea ∧ Stored w t ea r)
    OnlyRead s u m.size ∧
    (mnemonicOf i = .asl → ∃ r : Byte, ends r (v.getLsbD 7) ∧
      ∀ k < 8, r.getLsbD k = if k = 0 then false else v.getLsbD (k - 1)) ∧
    (mnemonicOf i = .lsr → ∃ r : Byte, ends r (v.getLsbD 0) ∧
      ∀ k < 8, r.getLsbD k = if k = 7 then false else v.getLsbD (k + 1)) ∧
    (mnemonicOf i = .rol → ∃ r : Byte, ends r (v.getLsbD 7) ∧
      ∀ k < 8, r.getLsbD k = if k = 0 then s.flagC else v.getLsbD (k - 1)) ∧
    (mnemonicOf i = .ror → ∃ r : Byte, ends r (v.getLsbD 0) ∧
      ∀ k < 8, r.getLsbD k = if k = 7 then s.flagC else v.getLsbD (k + 1))

/-- RMBn and SMBn (R250, R251): bit n of the zero-page byte is cleared or set, the byte is stored, and no flag
and no other bit changes. -/
def Obligations.BitResetAndSet : Prop :=
  ∀ (i : Instr) (n : Fin 8) (b : Bool) (s : State), s.canonical →
    mnemonicOf i = (if b then .smb n else .rmb n) →
    ∃ z r t, modeOf i = some (.zp z) ∧ exec i s = .next t ∧
      OnlyRead s (afterOperand (.zp z) s) 1 ∧
      Stored { afterOperand (.zp z) s with cycles := 5 } t (zext16 z) r ∧
      ∀ k : Fin 8, r.getLsbD k = if k = n then b else (operandValue (.zp z) s).getLsbD k

/-! ## Control -/

/-- The conditional branches (R280 to R288, R432): PC goes to the next instruction, or to it plus the signed
displacement where the condition holds; 2 cycles, 1 more if taken, 1 more to another page. -/
def Obligations.ConditionalBranches : Prop :=
  ∀ (s : State) (d : Byte),
    let u := s.operandFetch
    let target := s.pc + 1 + BitVec.ofInt 16 d.toInt
    let went (taken : Bool) : State :=
      if taken then { u with
        pc := target, cycles := if hi8 (s.pc + 1) = hi8 target then 3 else 4 }
      else { u with cycles := 2 }
    OnlyRead s u 1 ∧
    exec (.bpl d) s = .next (went (!s.flagN)) ∧ exec (.bmi d) s = .next (went s.flagN) ∧
    exec (.bvc d) s = .next (went (!s.flagV)) ∧ exec (.bvs d) s = .next (went s.flagV) ∧
    exec (.bcc d) s = .next (went (!s.flagC)) ∧ exec (.bcs d) s = .next (went s.flagC) ∧
    exec (.bne d) s = .next (went (!s.flagZ)) ∧ exec (.beq d) s = .next (went s.flagZ)

/-- BRA (R289), BBRn and BBSn (R290, R291, R432): BRA is always taken; the others by bit n of the zero-page
byte, which is read once, before the displacement is fetched. -/
def Obligations.BranchAlwaysAndOnBit : Prop :=
  (∀ (s : State) (d : Byte),
    let target := s.pc + 1 + BitVec.ofInt 16 d.toInt
    exec (.bra d) s = .next { s.operandFetch with
      pc := target, cycles := if hi8 (s.pc + 1) = hi8 target then 3 else 4 }) ∧
  (∀ (i : Instr) (n : Fin 8) (b : Bool) (s : State),
    mnemonicOf i = (if b then .bbs n else .bbr n) →
    ∃ z d, encode i = [opcodeOf i, z, d] ∧
      let u := (s.operandFetch.read8 (zext16 z)).2.operandFetch
      let target := s.pc + 2 + BitVec.ofInt 16 d.toInt
      OnlyRead s u 2 ∧
      exec i s = .next (if (s.operandFetch.busValue (zext16 z)).getLsbD n = b then { u with
          pc := target, cycles := if hi8 (s.pc + 2) = hi8 target then 6 else 7 }
        else { u with cycles := 5 }))

/-- JMP (R292, R293): PC is the address, or the word at the pointer with a full 16-bit increment, or at the
pointer plus X; nothing else changes but the UART queue and the cycle count. -/
def Obligations.JumpsSetPc : Prop :=
  ∀ (s : State) (w : Word),
    let u := s.operandFetch.operandFetch
    OnlyRead s u 2 ∧ OnlyRead s (u.read16 w).2 2 ∧ OnlyRead s (u.read16 (w + zext16 s.x)).2 2 ∧
    exec (.jmpAbs w) s = .next { u with pc := w, cycles := 3 } ∧
    exec (.jmpAbsInd w) s = .next { (u.read16 w).2 with
      pc := joinBytes ((u.read8 w).2.busValue (w + 1)) (u.busValue w), cycles := 6 } ∧
    exec (.jmpAbsXInd w) s = .next { (u.read16 (w + zext16 s.x)).2 with
      pc := joinBytes ((u.read8 (w + zext16 s.x)).2.busValue (w + zext16 s.x + 1))
        (u.busValue (w + zext16 s.x)), cycles := 6 }

/-- JSR (R294): the address of its last byte is pushed, high byte first, then PC is the operand; SP goes down
by 2. Where the stack is RAM, two bytes of memory change and nothing else is stored. -/
def Obligations.JsrPushesReturnAddress : Prop :=
  ∀ (w : Word) (s : State), ∃ t, exec (.jsr w) s = .next t ∧ t.pc = w ∧ t.sp = s.sp - 2 ∧ t.cycles = 6 ∧
    SameFlags s t ∧ OnlyControl s t ∧
    (∀ n, n ≠ (stackAddr s.sp).toNat → n ≠ (stackAddr (s.sp - 1)).toNat → t.mem.read n = s.mem.read n) ∧
    (s.stackIsRam → t.videoBuf = s.videoBuf ∧ t.kbdRowSel = s.kbdRowSel ∧ t.bankSel = s.bankSel) ∧
    (s.stackIsRam → s.canonical →
      t.mem.read (stackAddr s.sp).toNat = hi8 (s.pc + 1) ∧
      t.mem.read (stackAddr (s.sp - 1)).toNat = lo8 (s.pc + 1))

/-- RTS (R295): PC is the pulled word plus 1, SP goes up by 2, nothing is stored, no flag changes. -/
def Obligations.RtsReturnsPastPulledAddress : Prop :=
  ∀ s : State, ∃ t, exec .rts s = .next t ∧ t.pc = joinBytes s.pull8.2.pull8.1 s.pull8.1 + 1 ∧
    t = { s with
      pc := t.pc, sp := s.sp + 2, uartQueue := t.uartQueue, cycles := 6 } ∧ t.uartQueue <:+ s.uartQueue

/-- An RTS right after a JSR goes on behind the JSR with SP as it was (R294, R295), where the stack is RAM. -/
def Obligations.RtsUndoesJsr : Prop :=
  ∀ (w : Word) (s t : State), s.stackIsRam → s.canonical → exec (.jsr w) s = .next t →
    ∃ u, exec .rts t = .next u ∧ u.pc = s.pc + 2 ∧ u.sp = s.sp ∧ u.mem = t.mem ∧ SameFlags s u

/-! ## System -/

/-- The flag instructions (R320 to R326): the one flag; nothing else but the cycle count. -/
def Obligations.FlagInstructions : Prop :=
  ∀ s : State,
    exec .clc s = .next { s with flagC := false, cycles := 2 } ∧
    exec .sec s = .next { s with flagC := true, cycles := 2 } ∧
    exec .cli s = .next { s with flagI := false, cycles := 2 } ∧
    exec .sei s = .next { s with flagI := true, cycles := 2 } ∧
    exec .cld s = .next { s with flagD := false, cycles := 2 } ∧
    exec .sed s = .next { s with flagD := true, cycles := 2 } ∧
    exec .clv s = .next { s with flagV := false, cycles := 2 }

/-- NOP (R327) and the 44 undefined opcodes (R106, R330): each of the operand bytes, of which there are 0, 1
or 2, is fetched, by one Bus read at PC; the cycles are the table's; nothing else is read and nothing else
changes. -/
def Obligations.NopAndUndefinedOnlyFetch : Prop :=
  ∀ (i : Instr) (s : State), mnemonicOf i = .nop ∨ mnemonicOf i = .undefined →
    let u := s.operandFetch
    let w := u.operandFetch
    u = { s with pc := s.pc + 1, uartQueue := s.queueAfterRead s.pc } ∧
    w = { u with pc := u.pc + 1, uartQueue := u.queueAfterRead u.pc } ∧
    (mnemonicOf i = .nop → (encode i).length = 1) ∧
    ((encode i).length = 1 ∨ (encode i).length = 2 ∨ (encode i).length = 3) ∧
    ((encode i).length = 1 → exec i s = .next { s with cycles := (costOf i).base }) ∧
    ((encode i).length = 2 → exec i s = .next { u with cycles := (costOf i).base }) ∧
    ((encode i).length = 3 → exec i s = .next { w with cycles := (costOf i).base })

/-- WAI and STP (R331, R332): the run state; nothing else but the cycle count. -/
def Obligations.WaitAndStop : Prop :=
  ∀ s : State,
    exec .wai s = .next { s with run := .waiting, cycles := 3 } ∧
    exec .stp s = .next { s with run := .stopped, cycles := 3 }

/-! ## Peripherals, frames, loading -/

/-- The UART registers (R64, R65): STATUS shows whether a byte waits and the overrun, and pops nothing; DATA
gives and pops the oldest byte, or 0 where there is none. Any other byte of the block reads 0x00 with no
side effect (R63), and no write in the block has an effect (R66). -/
def Obligations.UartRegisters : Prop :=
  ∀ s : State, Inv s →
    (s.busValue s.cfg.uartStatusAddr).getLsbD s.cfg.uartDaBit = !s.uartQueue.isEmpty ∧
    (s.busValue s.cfg.uartStatusAddr).getLsbD s.cfg.uartOvrBit = s.uartOverrun ∧
    (∀ k : Fin 8, k ≠ s.cfg.uartDaBit → k ≠ s.cfg.uartOvrBit →
      (s.busValue s.cfg.uartStatusAddr).getLsbD k = false) ∧
    (s.read8 s.cfg.uartStatusAddr).2 = s ∧
    (∀ b q, s.uartQueue = b :: q → s.read8 s.cfg.uartDataAddr = (b, { s with uartQueue := q })) ∧
    (s.uartQueue = [] → s.read8 s.cfg.uartDataAddr = (0x00, s)) ∧
    (∀ a, s.regionAt a = some .uart → a ≠ s.cfg.uartStatusAddr → a ≠ s.cfg.uartDataAddr →
      s.read8 a = (0x00, s)) ∧
    (∀ a v, s.regionAt a = some .uart → s.write8 a v = s)

/-- The keyboard (R71 to R74): after a ROWSEL write of v and a key event at (r, c), bit c' of COL is down where
some row that v selects has its key of column c' down, in the polarity of KBD_ACTIVE_LOW. No read of the
block has a side effect, any other byte of it reads 0x00, and a write changes nothing but at ROWSEL (R70, R72). The
row decoding is held as data, the model's choice (log 10). -/
def Obligations.KeyboardColumnShowsSelectedRows : Prop :=
  ∀ (s : State) (v : Byte) (r c c' : Fin 8) (p : Bool), Inv s →
    let t := (s.keyEvent r c p).write8 s.cfg.kbdRowAddr v
    t.busValue s.cfg.kbdRowAddr = v ∧
    ((t.busValue s.cfg.kbdColAddr).getLsbD c' = true ↔
      ((∃ r' ∈ decodeRows s.cfg.kbdRowDecode v,
        (if r' = r ∧ c' = c then p else (s.kbdMatrix.get r').get c') = true) ↔ s.cfg.kbdActiveLow = false)) ∧
    (∀ a, s.regionAt a = some .keyboard → (t.read8 a).2 = t) ∧
    (∀ a, s.regionAt a = some .keyboard → a ≠ s.cfg.kbdRowAddr → a ≠ s.cfg.kbdColAddr →
      t.busValue a = 0x00) ∧
    (∀ a w, s.regionAt a = some .keyboard → a ≠ s.cfg.kbdRowAddr → t.write8 a w = t)

/-- The bank-select register (R61): after a write of v the register reads v mod BANK_COUNT and the very next
access in the window sees that bank's byte; a write in the window does nothing. That a bank with no image
reads zeros is the model's choice (log 12). -/
def Obligations.BankSwitchActsAtOnce : Prop :=
  ∀ (s : State) (b : BankConfig) (v w : Byte) (a : Word), Inv s → s.cfg.bank = some b →
    s.regionAt b.regAddr = some .bankReg → s.regionAt a = some .bankWindow →
    let t := s.write8 b.regAddr v
    t.bankSel = v.toNat % b.count ∧
    (t.busValue b.regAddr).toNat = v.toNat % b.count ∧
    t.busValue a = (b.images.getD (v.toNat % b.count) []).read (a.toNat - b.windowBase.toNat) ∧
    s.write8 a w = s

/-- The frame tick (R78, R79): the accumulated cycles divided by CYCLES_PER_FRAME count frames, the rest stays,
and the snapshot is the buffer as it stands at the last frame counted; without one it is unchanged. -/
def Obligations.FrameTickCountsFrames : Prop :=
  ∀ (s : State) (n : Nat), 0 < s.cfg.cyclesPerFrame →
    s.frameTick n = { s with
      frameCycles := (s.frameCycles + n) % s.cfg.cyclesPerFrame
      videoGen := s.videoGen + (s.frameCycles + n) / s.cfg.cyclesPerFrame
      videoSnapshot := if s.cfg.cyclesPerFrame ≤ s.frameCycles + n then s.videoBuf else s.videoSnapshot }

/-- Newline normalization (R68) equals its pseudocode's reading: CR LF and a lone CR become LF, any other byte
passes; so no CR is left and a source without CR is unchanged. -/
def Obligations.NewlinesAreNormalized : Prop :=
  (∀ s : List Byte, 0x0D ∉ normalizeNewlines s ∧ (normalizeNewlines s).length ≤ s.length) ∧
  (∀ s : List Byte, 0x0D ∉ s → normalizeNewlines s = s) ∧
  (∀ s : List Byte, normalizeNewlines (0x0D :: 0x0A :: s) = 0x0A :: normalizeNewlines s) ∧
  (∀ s : List Byte, s.head? ≠ some 0x0A → normalizeNewlines (0x0D :: s) = 0x0A :: normalizeNewlines s) ∧
  (∀ (s : List Byte) (b : Byte), b ≠ 0x0D → normalizeNewlines (b :: s) = b :: normalizeNewlines s)

/-- Startup (R410 to R416): an unreadable source is IOError; then a bad cartridge, or one that declares more
payload than there is, is FormatError; then an image or a region past 0xFFFF, and regions or images that
overlap, are ConfigError; else startup succeeds. It leaves the images as ROM, the effective overrides, the
draws, the first UART_CAPACITY bytes of the source in the queue, and the power-on values of R41 after the
reset sequence. These clauses rest on the model's choices, not on a rule of the spec: which error wins where
several hold, and that a header of length 0 makes no region (log 9, DEDUCED); that too short a payload is a
bad cartridge (log 11, DEDUCED); that the bank regions join the table (log 14, DEDUCED); the PC and the queue
where the UART lies at the RESET vector (log 21); that a table entry with `lo > hi` does not fit (log 22);
what a ROM outside the images holds (log 23); that a bank window of size 0 makes no region and no error
(log 24; the last four are DESIGN CHOICE). -/
def Obligations.StartupErrors : Prop :=
  ∀ (parse : List Byte → CartResult) (inp : StartupInput),
    (inp.entry = none ∨ inp.uartSource = none ∨ (∃ h, inp.cartridge = some ⟨h, none⟩) →
      startup parse inp = .error .ioError) ∧
    (∀ e u blob, inp.entry = some e → inp.uartSource = some u → inp.cartridge = some ⟨true, some blob⟩ →
      parse blob = .bad ∨ (∃ g, parse blob = .ok g ∧ g.payload.length < g.length) →
      startup parse inp = .error .formatError) ∧
    (∀ images h u, LoadsImages parse inp images h → inp.uartSource = some u →
      (BadLayout inp.cfg images → startup parse inp = .error .configError) ∧
      (¬ BadLayout inp.cfg images → (∀ r ∈ inp.cfg.regions, r.lo ≤ r.hi) →
        ∃ s, startup parse inp = .ok s ∧ StartedFrom inp images h u s)) ∧
    (∀ s, startup parse inp = .ok s →
      ∃ images h u, LoadsImages parse inp images h ∧ inp.uartSource = some u ∧ StartedFrom inp images h u s)

/-- The walk order of a table of disjoint regions changes no result (R57). -/
def Obligations.RegionOrderIsIrrelevant : Prop :=
  ∀ (rs rs' : List Region) (a : Word), rs.Perm rs' → regionsDisjoint rs = true →
    lookupRegion rs a = lookupRegion rs' a
end

