-- ==== Sys2Proof/Laws/Bits.lean ====
section
/-! SUPPORT. Laws of byte order (R9, R51) and of the pushed flag byte (R33). -/

namespace Sys2Proof.Laws

open Sys2Proof.Machine

@[simp] theorem joinBytes_hi8_lo8 (w : Word) : joinBytes (hi8 w) (lo8 w) = w := by
  apply BitVec.eq_of_getLsbD_eq
  intro i hi
  simp only [joinBytes, hi8, lo8, BitVec.getLsbD_append, BitVec.getLsbD_extractLsb']
  split <;> rename_i h
  · simp [h]
  · have h2 : i - 8 < 8 := by omega
    have h3 : 8 + (i - 8) = i := by omega
    simp [h2, h3]

@[simp] theorem lo8_joinBytes (h l : Byte) : lo8 (joinBytes h l) = l := by
  apply BitVec.eq_of_getLsbD_eq
  intro i hi
  simp only [joinBytes, lo8, BitVec.getLsbD_append, BitVec.getLsbD_extractLsb']
  simp [hi]

@[simp] theorem hi8_joinBytes (h l : Byte) : hi8 (joinBytes h l) = h := by
  apply BitVec.eq_of_getLsbD_eq
  intro i hi
  simp only [joinBytes, hi8, BitVec.getLsbD_append, BitVec.getLsbD_extractLsb']
  simp [hi]

/-- The pushed flag byte holds each flag at its bit, 1 at bit 5 and the break bit at bit 4 (R25, R33). -/
theorem pByte_bits (s : State) (b : Bool) :
    (s.pByte b).getLsbD 7 = s.flagN ∧ (s.pByte b).getLsbD 6 = s.flagV ∧ (s.pByte b).getLsbD 5 = true ∧
    (s.pByte b).getLsbD 4 = b ∧ (s.pByte b).getLsbD 3 = s.flagD ∧ (s.pByte b).getLsbD 2 = s.flagI ∧
    (s.pByte b).getLsbD 1 = s.flagZ ∧ (s.pByte b).getLsbD 0 = s.flagC := by
  unfold State.pByte
  generalize s.flagN = n; generalize s.flagV = v; generalize s.flagD = d
  generalize s.flagI = i; generalize s.flagZ = z; generalize s.flagC = c
  revert n v d i z c b
  decide

/-- Stack addresses of distinct offsets are distinct (R23). -/
theorem stackAddr_inj (p q : Byte) (h : stackAddr p = stackAddr q) : p = q := by
  have h2 := congrArg BitVec.toNat h
  simp only [stackAddr, zext16, BitVec.toNat_add, BitVec.toNat_setWidth, BitVec.toNat_ofNat] at h2
  apply BitVec.eq_of_toNat_eq
  have hp := p.isLt
  have hq := q.isLt
  omega

end Sys2Proof.Laws
end

