-- ==== Sys2Proof/Laws/State.lean ====
section
/-! SUPPORT. One lemma per field of State per named update, true by rfl (GOOD_PV_LEAN 3). -/

namespace Sys2Proof.Laws

open Sys2Proof.Machine

@[simp] theorem setA_cfg (s : State) (v : Byte) : (s.setA v).cfg = s.cfg := rfl
@[simp] theorem setA_a (s : State) (v : Byte) : (s.setA v).a = v := rfl
@[simp] theorem setA_x (s : State) (v : Byte) : (s.setA v).x = s.x := rfl
@[simp] theorem setA_y (s : State) (v : Byte) : (s.setA v).y = s.y := rfl
@[simp] theorem setA_sp (s : State) (v : Byte) : (s.setA v).sp = s.sp := rfl
@[simp] theorem setA_pc (s : State) (v : Byte) : (s.setA v).pc = s.pc := rfl
@[simp] theorem setA_flagN (s : State) (v : Byte) : (s.setA v).flagN = s.flagN := rfl
@[simp] theorem setA_flagV (s : State) (v : Byte) : (s.setA v).flagV = s.flagV := rfl
@[simp] theorem setA_flagD (s : State) (v : Byte) : (s.setA v).flagD = s.flagD := rfl
@[simp] theorem setA_flagI (s : State) (v : Byte) : (s.setA v).flagI = s.flagI := rfl
@[simp] theorem setA_flagZ (s : State) (v : Byte) : (s.setA v).flagZ = s.flagZ := rfl
@[simp] theorem setA_flagC (s : State) (v : Byte) : (s.setA v).flagC = s.flagC := rfl
@[simp] theorem setA_run (s : State) (v : Byte) : (s.setA v).run = s.run := rfl
@[simp] theorem setA_nmiLine (s : State) (v : Byte) : (s.setA v).nmiLine = s.nmiLine := rfl
@[simp] theorem setA_nmiLatch (s : State) (v : Byte) : (s.setA v).nmiLatch = s.nmiLatch := rfl
@[simp] theorem setA_irqLine (s : State) (v : Byte) : (s.setA v).irqLine = s.irqLine := rfl
@[simp] theorem setA_mem (s : State) (v : Byte) : (s.setA v).mem = s.mem := rfl
@[simp] theorem setA_uartQueue (s : State) (v : Byte) : (s.setA v).uartQueue = s.uartQueue := rfl
@[simp] theorem setA_uartOverrun (s : State) (v : Byte) : (s.setA v).uartOverrun = s.uartOverrun := rfl
@[simp] theorem setA_kbdMatrix (s : State) (v : Byte) : (s.setA v).kbdMatrix = s.kbdMatrix := rfl
@[simp] theorem setA_kbdRowSel (s : State) (v : Byte) : (s.setA v).kbdRowSel = s.kbdRowSel := rfl
@[simp] theorem setA_videoBuf (s : State) (v : Byte) : (s.setA v).videoBuf = s.videoBuf := rfl
@[simp] theorem setA_videoGen (s : State) (v : Byte) : (s.setA v).videoGen = s.videoGen := rfl
@[simp] theorem setA_videoSnapshot (s : State) (v : Byte) : (s.setA v).videoSnapshot = s.videoSnapshot := rfl
@[simp] theorem setA_frameCycles (s : State) (v : Byte) : (s.setA v).frameCycles = s.frameCycles := rfl
@[simp] theorem setA_bankSel (s : State) (v : Byte) : (s.setA v).bankSel = s.bankSel := rfl
@[simp] theorem setA_cycles (s : State) (v : Byte) : (s.setA v).cycles = s.cycles := rfl
@[simp] theorem setA_freeCount (s : State) (v : Byte) : (s.setA v).freeCount = s.freeCount := rfl

@[simp] theorem setX_cfg (s : State) (v : Byte) : (s.setX v).cfg = s.cfg := rfl
@[simp] theorem setX_a (s : State) (v : Byte) : (s.setX v).a = s.a := rfl
@[simp] theorem setX_x (s : State) (v : Byte) : (s.setX v).x = v := rfl
@[simp] theorem setX_y (s : State) (v : Byte) : (s.setX v).y = s.y := rfl
@[simp] theorem setX_sp (s : State) (v : Byte) : (s.setX v).sp = s.sp := rfl
@[simp] theorem setX_pc (s : State) (v : Byte) : (s.setX v).pc = s.pc := rfl
@[simp] theorem setX_flagN (s : State) (v : Byte) : (s.setX v).flagN = s.flagN := rfl
@[simp] theorem setX_flagV (s : State) (v : Byte) : (s.setX v).flagV = s.flagV := rfl
@[simp] theorem setX_flagD (s : State) (v : Byte) : (s.setX v).flagD = s.flagD := rfl
@[simp] theorem setX_flagI (s : State) (v : Byte) : (s.setX v).flagI = s.flagI := rfl
@[simp] theorem setX_flagZ (s : State) (v : Byte) : (s.setX v).flagZ = s.flagZ := rfl
@[simp] theorem setX_flagC (s : State) (v : Byte) : (s.setX v).flagC = s.flagC := rfl
@[simp] theorem setX_run (s : State) (v : Byte) : (s.setX v).run = s.run := rfl
@[simp] theorem setX_nmiLine (s : State) (v : Byte) : (s.setX v).nmiLine = s.nmiLine := rfl
@[simp] theorem setX_nmiLatch (s : State) (v : Byte) : (s.setX v).nmiLatch = s.nmiLatch := rfl
@[simp] theorem setX_irqLine (s : State) (v : Byte) : (s.setX v).irqLine = s.irqLine := rfl
@[simp] theorem setX_mem (s : State) (v : Byte) : (s.setX v).mem = s.mem := rfl
@[simp] theorem setX_uartQueue (s : State) (v : Byte) : (s.setX v).uartQueue = s.uartQueue := rfl
@[simp] theorem setX_uartOverrun (s : State) (v : Byte) : (s.setX v).uartOverrun = s.uartOverrun := rfl
@[simp] theorem setX_kbdMatrix (s : State) (v : Byte) : (s.setX v).kbdMatrix = s.kbdMatrix := rfl
@[simp] theorem setX_kbdRowSel (s : State) (v : Byte) : (s.setX v).kbdRowSel = s.kbdRowSel := rfl
@[simp] theorem setX_videoBuf (s : State) (v : Byte) : (s.setX v).videoBuf = s.videoBuf := rfl
@[simp] theorem setX_videoGen (s : State) (v : Byte) : (s.setX v).videoGen = s.videoGen := rfl
@[simp] theorem setX_videoSnapshot (s : State) (v : Byte) : (s.setX v).videoSnapshot = s.videoSnapshot := rfl
@[simp] theorem setX_frameCycles (s : State) (v : Byte) : (s.setX v).frameCycles = s.frameCycles := rfl
@[simp] theorem setX_bankSel (s : State) (v : Byte) : (s.setX v).bankSel = s.bankSel := rfl
@[simp] theorem setX_cycles (s : State) (v : Byte) : (s.setX v).cycles = s.cycles := rfl
@[simp] theorem setX_freeCount (s : State) (v : Byte) : (s.setX v).freeCount = s.freeCount := rfl

@[simp] theorem setY_cfg (s : State) (v : Byte) : (s.setY v).cfg = s.cfg := rfl
@[simp] theorem setY_a (s : State) (v : Byte) : (s.setY v).a = s.a := rfl
@[simp] theorem setY_x (s : State) (v : Byte) : (s.setY v).x = s.x := rfl
@[simp] theorem setY_y (s : State) (v : Byte) : (s.setY v).y = v := rfl
@[simp] theorem setY_sp (s : State) (v : Byte) : (s.setY v).sp = s.sp := rfl
@[simp] theorem setY_pc (s : State) (v : Byte) : (s.setY v).pc = s.pc := rfl
@[simp] theorem setY_flagN (s : State) (v : Byte) : (s.setY v).flagN = s.flagN := rfl
@[simp] theorem setY_flagV (s : State) (v : Byte) : (s.setY v).flagV = s.flagV := rfl
@[simp] theorem setY_flagD (s : State) (v : Byte) : (s.setY v).flagD = s.flagD := rfl
@[simp] theorem setY_flagI (s : State) (v : Byte) : (s.setY v).flagI = s.flagI := rfl
@[simp] theorem setY_flagZ (s : State) (v : Byte) : (s.setY v).flagZ = s.flagZ := rfl
@[simp] theorem setY_flagC (s : State) (v : Byte) : (s.setY v).flagC = s.flagC := rfl
@[simp] theorem setY_run (s : State) (v : Byte) : (s.setY v).run = s.run := rfl
@[simp] theorem setY_nmiLine (s : State) (v : Byte) : (s.setY v).nmiLine = s.nmiLine := rfl
@[simp] theorem setY_nmiLatch (s : State) (v : Byte) : (s.setY v).nmiLatch = s.nmiLatch := rfl
@[simp] theorem setY_irqLine (s : State) (v : Byte) : (s.setY v).irqLine = s.irqLine := rfl
@[simp] theorem setY_mem (s : State) (v : Byte) : (s.setY v).mem = s.mem := rfl
@[simp] theorem setY_uartQueue (s : State) (v : Byte) : (s.setY v).uartQueue = s.uartQueue := rfl
@[simp] theorem setY_uartOverrun (s : State) (v : Byte) : (s.setY v).uartOverrun = s.uartOverrun := rfl
@[simp] theorem setY_kbdMatrix (s : State) (v : Byte) : (s.setY v).kbdMatrix = s.kbdMatrix := rfl
@[simp] theorem setY_kbdRowSel (s : State) (v : Byte) : (s.setY v).kbdRowSel = s.kbdRowSel := rfl
@[simp] theorem setY_videoBuf (s : State) (v : Byte) : (s.setY v).videoBuf = s.videoBuf := rfl
@[simp] theorem setY_videoGen (s : State) (v : Byte) : (s.setY v).videoGen = s.videoGen := rfl
@[simp] theorem setY_videoSnapshot (s : State) (v : Byte) : (s.setY v).videoSnapshot = s.videoSnapshot := rfl
@[simp] theorem setY_frameCycles (s : State) (v : Byte) : (s.setY v).frameCycles = s.frameCycles := rfl
@[simp] theorem setY_bankSel (s : State) (v : Byte) : (s.setY v).bankSel = s.bankSel := rfl
@[simp] theorem setY_cycles (s : State) (v : Byte) : (s.setY v).cycles = s.cycles := rfl
@[simp] theorem setY_freeCount (s : State) (v : Byte) : (s.setY v).freeCount = s.freeCount := rfl

@[simp] theorem setSP_cfg (s : State) (v : Byte) : (s.setSP v).cfg = s.cfg := rfl
@[simp] theorem setSP_a (s : State) (v : Byte) : (s.setSP v).a = s.a := rfl
@[simp] theorem setSP_x (s : State) (v : Byte) : (s.setSP v).x = s.x := rfl
@[simp] theorem setSP_y (s : State) (v : Byte) : (s.setSP v).y = s.y := rfl
@[simp] theorem setSP_sp (s : State) (v : Byte) : (s.setSP v).sp = v := rfl
@[simp] theorem setSP_pc (s : State) (v : Byte) : (s.setSP v).pc = s.pc := rfl
@[simp] theorem setSP_flagN (s : State) (v : Byte) : (s.setSP v).flagN = s.flagN := rfl
@[simp] theorem setSP_flagV (s : State) (v : Byte) : (s.setSP v).flagV = s.flagV := rfl
@[simp] theorem setSP_flagD (s : State) (v : Byte) : (s.setSP v).flagD = s.flagD := rfl
@[simp] theorem setSP_flagI (s : State) (v : Byte) : (s.setSP v).flagI = s.flagI := rfl
@[simp] theorem setSP_flagZ (s : State) (v : Byte) : (s.setSP v).flagZ = s.flagZ := rfl
@[simp] theorem setSP_flagC (s : State) (v : Byte) : (s.setSP v).flagC = s.flagC := rfl
@[simp] theorem setSP_run (s : State) (v : Byte) : (s.setSP v).run = s.run := rfl
@[simp] theorem setSP_nmiLine (s : State) (v : Byte) : (s.setSP v).nmiLine = s.nmiLine := rfl
@[simp] theorem setSP_nmiLatch (s : State) (v : Byte) : (s.setSP v).nmiLatch = s.nmiLatch := rfl
@[simp] theorem setSP_irqLine (s : State) (v : Byte) : (s.setSP v).irqLine = s.irqLine := rfl
@[simp] theorem setSP_mem (s : State) (v : Byte) : (s.setSP v).mem = s.mem := rfl
@[simp] theorem setSP_uartQueue (s : State) (v : Byte) : (s.setSP v).uartQueue = s.uartQueue := rfl
@[simp] theorem setSP_uartOverrun (s : State) (v : Byte) : (s.setSP v).uartOverrun = s.uartOverrun := rfl
@[simp] theorem setSP_kbdMatrix (s : State) (v : Byte) : (s.setSP v).kbdMatrix = s.kbdMatrix := rfl
@[simp] theorem setSP_kbdRowSel (s : State) (v : Byte) : (s.setSP v).kbdRowSel = s.kbdRowSel := rfl
@[simp] theorem setSP_videoBuf (s : State) (v : Byte) : (s.setSP v).videoBuf = s.videoBuf := rfl
@[simp] theorem setSP_videoGen (s : State) (v : Byte) : (s.setSP v).videoGen = s.videoGen := rfl
@[simp] theorem setSP_videoSnapshot (s : State) (v : Byte) : (s.setSP v).videoSnapshot = s.videoSnapshot := rfl
@[simp] theorem setSP_frameCycles (s : State) (v : Byte) : (s.setSP v).frameCycles = s.frameCycles := rfl
@[simp] theorem setSP_bankSel (s : State) (v : Byte) : (s.setSP v).bankSel = s.bankSel := rfl
@[simp] theorem setSP_cycles (s : State) (v : Byte) : (s.setSP v).cycles = s.cycles := rfl
@[simp] theorem setSP_freeCount (s : State) (v : Byte) : (s.setSP v).freeCount = s.freeCount := rfl

@[simp] theorem setPC_cfg (s : State) (w : Word) : (s.setPC w).cfg = s.cfg := rfl
@[simp] theorem setPC_a (s : State) (w : Word) : (s.setPC w).a = s.a := rfl
@[simp] theorem setPC_x (s : State) (w : Word) : (s.setPC w).x = s.x := rfl
@[simp] theorem setPC_y (s : State) (w : Word) : (s.setPC w).y = s.y := rfl
@[simp] theorem setPC_sp (s : State) (w : Word) : (s.setPC w).sp = s.sp := rfl
@[simp] theorem setPC_pc (s : State) (w : Word) : (s.setPC w).pc = w := rfl
@[simp] theorem setPC_flagN (s : State) (w : Word) : (s.setPC w).flagN = s.flagN := rfl
@[simp] theorem setPC_flagV (s : State) (w : Word) : (s.setPC w).flagV = s.flagV := rfl
@[simp] theorem setPC_flagD (s : State) (w : Word) : (s.setPC w).flagD = s.flagD := rfl
@[simp] theorem setPC_flagI (s : State) (w : Word) : (s.setPC w).flagI = s.flagI := rfl
@[simp] theorem setPC_flagZ (s : State) (w : Word) : (s.setPC w).flagZ = s.flagZ := rfl
@[simp] theorem setPC_flagC (s : State) (w : Word) : (s.setPC w).flagC = s.flagC := rfl
@[simp] theorem setPC_run (s : State) (w : Word) : (s.setPC w).run = s.run := rfl
@[simp] theorem setPC_nmiLine (s : State) (w : Word) : (s.setPC w).nmiLine = s.nmiLine := rfl
@[simp] theorem setPC_nmiLatch (s : State) (w : Word) : (s.setPC w).nmiLatch = s.nmiLatch := rfl
@[simp] theorem setPC_irqLine (s : State) (w : Word) : (s.setPC w).irqLine = s.irqLine := rfl
@[simp] theorem setPC_mem (s : State) (w : Word) : (s.setPC w).mem = s.mem := rfl
@[simp] theorem setPC_uartQueue (s : State) (w : Word) : (s.setPC w).uartQueue = s.uartQueue := rfl
@[simp] theorem setPC_uartOverrun (s : State) (w : Word) : (s.setPC w).uartOverrun = s.uartOverrun := rfl
@[simp] theorem setPC_kbdMatrix (s : State) (w : Word) : (s.setPC w).kbdMatrix = s.kbdMatrix := rfl
@[simp] theorem setPC_kbdRowSel (s : State) (w : Word) : (s.setPC w).kbdRowSel = s.kbdRowSel := rfl
@[simp] theorem setPC_videoBuf (s : State) (w : Word) : (s.setPC w).videoBuf = s.videoBuf := rfl
@[simp] theorem setPC_videoGen (s : State) (w : Word) : (s.setPC w).videoGen = s.videoGen := rfl
@[simp] theorem setPC_videoSnapshot (s : State) (w : Word) : (s.setPC w).videoSnapshot = s.videoSnapshot := rfl
@[simp] theorem setPC_frameCycles (s : State) (w : Word) : (s.setPC w).frameCycles = s.frameCycles := rfl
@[simp] theorem setPC_bankSel (s : State) (w : Word) : (s.setPC w).bankSel = s.bankSel := rfl
@[simp] theorem setPC_cycles (s : State) (w : Word) : (s.setPC w).cycles = s.cycles := rfl
@[simp] theorem setPC_freeCount (s : State) (w : Word) : (s.setPC w).freeCount = s.freeCount := rfl

@[simp] theorem setV_cfg (s : State) (b : Bool) : (s.setV b).cfg = s.cfg := rfl
@[simp] theorem setV_a (s : State) (b : Bool) : (s.setV b).a = s.a := rfl
@[simp] theorem setV_x (s : State) (b : Bool) : (s.setV b).x = s.x := rfl
@[simp] theorem setV_y (s : State) (b : Bool) : (s.setV b).y = s.y := rfl
@[simp] theorem setV_sp (s : State) (b : Bool) : (s.setV b).sp = s.sp := rfl
@[simp] theorem setV_pc (s : State) (b : Bool) : (s.setV b).pc = s.pc := rfl
@[simp] theorem setV_flagN (s : State) (b : Bool) : (s.setV b).flagN = s.flagN := rfl
@[simp] theorem setV_flagV (s : State) (b : Bool) : (s.setV b).flagV = b := rfl
@[simp] theorem setV_flagD (s : State) (b : Bool) : (s.setV b).flagD = s.flagD := rfl
@[simp] theorem setV_flagI (s : State) (b : Bool) : (s.setV b).flagI = s.flagI := rfl
@[simp] theorem setV_flagZ (s : State) (b : Bool) : (s.setV b).flagZ = s.flagZ := rfl
@[simp] theorem setV_flagC (s : State) (b : Bool) : (s.setV b).flagC = s.flagC := rfl
@[simp] theorem setV_run (s : State) (b : Bool) : (s.setV b).run = s.run := rfl
@[simp] theorem setV_nmiLine (s : State) (b : Bool) : (s.setV b).nmiLine = s.nmiLine := rfl
@[simp] theorem setV_nmiLatch (s : State) (b : Bool) : (s.setV b).nmiLatch = s.nmiLatch := rfl
@[simp] theorem setV_irqLine (s : State) (b : Bool) : (s.setV b).irqLine = s.irqLine := rfl
@[simp] theorem setV_mem (s : State) (b : Bool) : (s.setV b).mem = s.mem := rfl
@[simp] theorem setV_uartQueue (s : State) (b : Bool) : (s.setV b).uartQueue = s.uartQueue := rfl
@[simp] theorem setV_uartOverrun (s : State) (b : Bool) : (s.setV b).uartOverrun = s.uartOverrun := rfl
@[simp] theorem setV_kbdMatrix (s : State) (b : Bool) : (s.setV b).kbdMatrix = s.kbdMatrix := rfl
@[simp] theorem setV_kbdRowSel (s : State) (b : Bool) : (s.setV b).kbdRowSel = s.kbdRowSel := rfl
@[simp] theorem setV_videoBuf (s : State) (b : Bool) : (s.setV b).videoBuf = s.videoBuf := rfl
@[simp] theorem setV_videoGen (s : State) (b : Bool) : (s.setV b).videoGen = s.videoGen := rfl
@[simp] theorem setV_videoSnapshot (s : State) (b : Bool) : (s.setV b).videoSnapshot = s.videoSnapshot := rfl
@[simp] theorem setV_frameCycles (s : State) (b : Bool) : (s.setV b).frameCycles = s.frameCycles := rfl
@[simp] theorem setV_bankSel (s : State) (b : Bool) : (s.setV b).bankSel = s.bankSel := rfl
@[simp] theorem setV_cycles (s : State) (b : Bool) : (s.setV b).cycles = s.cycles := rfl
@[simp] theorem setV_freeCount (s : State) (b : Bool) : (s.setV b).freeCount = s.freeCount := rfl

@[simp] theorem setD_cfg (s : State) (b : Bool) : (s.setD b).cfg = s.cfg := rfl
@[simp] theorem setD_a (s : State) (b : Bool) : (s.setD b).a = s.a := rfl
@[simp] theorem setD_x (s : State) (b : Bool) : (s.setD b).x = s.x := rfl
@[simp] theorem setD_y (s : State) (b : Bool) : (s.setD b).y = s.y := rfl
@[simp] theorem setD_sp (s : State) (b : Bool) : (s.setD b).sp = s.sp := rfl
@[simp] theorem setD_pc (s : State) (b : Bool) : (s.setD b).pc = s.pc := rfl
@[simp] theorem setD_flagN (s : State) (b : Bool) : (s.setD b).flagN = s.flagN := rfl
@[simp] theorem setD_flagV (s : State) (b : Bool) : (s.setD b).flagV = s.flagV := rfl
@[simp] theorem setD_flagD (s : State) (b : Bool) : (s.setD b).flagD = b := rfl
@[simp] theorem setD_flagI (s : State) (b : Bool) : (s.setD b).flagI = s.flagI := rfl
@[simp] theorem setD_flagZ (s : State) (b : Bool) : (s.setD b).flagZ = s.flagZ := rfl
@[simp] theorem setD_flagC (s : State) (b : Bool) : (s.setD b).flagC = s.flagC := rfl
@[simp] theorem setD_run (s : State) (b : Bool) : (s.setD b).run = s.run := rfl
@[simp] theorem setD_nmiLine (s : State) (b : Bool) : (s.setD b).nmiLine = s.nmiLine := rfl
@[simp] theorem setD_nmiLatch (s : State) (b : Bool) : (s.setD b).nmiLatch = s.nmiLatch := rfl
@[simp] theorem setD_irqLine (s : State) (b : Bool) : (s.setD b).irqLine = s.irqLine := rfl
@[simp] theorem setD_mem (s : State) (b : Bool) : (s.setD b).mem = s.mem := rfl
@[simp] theorem setD_uartQueue (s : State) (b : Bool) : (s.setD b).uartQueue = s.uartQueue := rfl
@[simp] theorem setD_uartOverrun (s : State) (b : Bool) : (s.setD b).uartOverrun = s.uartOverrun := rfl
@[simp] theorem setD_kbdMatrix (s : State) (b : Bool) : (s.setD b).kbdMatrix = s.kbdMatrix := rfl
@[simp] theorem setD_kbdRowSel (s : State) (b : Bool) : (s.setD b).kbdRowSel = s.kbdRowSel := rfl
@[simp] theorem setD_videoBuf (s : State) (b : Bool) : (s.setD b).videoBuf = s.videoBuf := rfl
@[simp] theorem setD_videoGen (s : State) (b : Bool) : (s.setD b).videoGen = s.videoGen := rfl
@[simp] theorem setD_videoSnapshot (s : State) (b : Bool) : (s.setD b).videoSnapshot = s.videoSnapshot := rfl
@[simp] theorem setD_frameCycles (s : State) (b : Bool) : (s.setD b).frameCycles = s.frameCycles := rfl
@[simp] theorem setD_bankSel (s : State) (b : Bool) : (s.setD b).bankSel = s.bankSel := rfl
@[simp] theorem setD_cycles (s : State) (b : Bool) : (s.setD b).cycles = s.cycles := rfl
@[simp] theorem setD_freeCount (s : State) (b : Bool) : (s.setD b).freeCount = s.freeCount := rfl

@[simp] theorem setI_cfg (s : State) (b : Bool) : (s.setI b).cfg = s.cfg := rfl
@[simp] theorem setI_a (s : State) (b : Bool) : (s.setI b).a = s.a := rfl
@[simp] theorem setI_x (s : State) (b : Bool) : (s.setI b).x = s.x := rfl
@[simp] theorem setI_y (s : State) (b : Bool) : (s.setI b).y = s.y := rfl
@[simp] theorem setI_sp (s : State) (b : Bool) : (s.setI b).sp = s.sp := rfl
@[simp] theorem setI_pc (s : State) (b : Bool) : (s.setI b).pc = s.pc := rfl
@[simp] theorem setI_flagN (s : State) (b : Bool) : (s.setI b).flagN = s.flagN := rfl
@[simp] theorem setI_flagV (s : State) (b : Bool) : (s.setI b).flagV = s.flagV := rfl
@[simp] theorem setI_flagD (s : State) (b : Bool) : (s.setI b).flagD = s.flagD := rfl
@[simp] theorem setI_flagI (s : State) (b : Bool) : (s.setI b).flagI = b := rfl
@[simp] theorem setI_flagZ (s : State) (b : Bool) : (s.setI b).flagZ = s.flagZ := rfl
@[simp] theorem setI_flagC (s : State) (b : Bool) : (s.setI b).flagC = s.flagC := rfl
@[simp] theorem setI_run (s : State) (b : Bool) : (s.setI b).run = s.run := rfl
@[simp] theorem setI_nmiLine (s : State) (b : Bool) : (s.setI b).nmiLine = s.nmiLine := rfl
@[simp] theorem setI_nmiLatch (s : State) (b : Bool) : (s.setI b).nmiLatch = s.nmiLatch := rfl
@[simp] theorem setI_irqLine (s : State) (b : Bool) : (s.setI b).irqLine = s.irqLine := rfl
@[simp] theorem setI_mem (s : State) (b : Bool) : (s.setI b).mem = s.mem := rfl
@[simp] theorem setI_uartQueue (s : State) (b : Bool) : (s.setI b).uartQueue = s.uartQueue := rfl
@[simp] theorem setI_uartOverrun (s : State) (b : Bool) : (s.setI b).uartOverrun = s.uartOverrun := rfl
@[simp] theorem setI_kbdMatrix (s : State) (b : Bool) : (s.setI b).kbdMatrix = s.kbdMatrix := rfl
@[simp] theorem setI_kbdRowSel (s : State) (b : Bool) : (s.setI b).kbdRowSel = s.kbdRowSel := rfl
@[simp] theorem setI_videoBuf (s : State) (b : Bool) : (s.setI b).videoBuf = s.videoBuf := rfl
@[simp] theorem setI_videoGen (s : State) (b : Bool) : (s.setI b).videoGen = s.videoGen := rfl
@[simp] theorem setI_videoSnapshot (s : State) (b : Bool) : (s.setI b).videoSnapshot = s.videoSnapshot := rfl
@[simp] theorem setI_frameCycles (s : State) (b : Bool) : (s.setI b).frameCycles = s.frameCycles := rfl
@[simp] theorem setI_bankSel (s : State) (b : Bool) : (s.setI b).bankSel = s.bankSel := rfl
@[simp] theorem setI_cycles (s : State) (b : Bool) : (s.setI b).cycles = s.cycles := rfl
@[simp] theorem setI_freeCount (s : State) (b : Bool) : (s.setI b).freeCount = s.freeCount := rfl

@[simp] theorem setZ_cfg (s : State) (b : Bool) : (s.setZ b).cfg = s.cfg := rfl
@[simp] theorem setZ_a (s : State) (b : Bool) : (s.setZ b).a = s.a := rfl
@[simp] theorem setZ_x (s : State) (b : Bool) : (s.setZ b).x = s.x := rfl
@[simp] theorem setZ_y (s : State) (b : Bool) : (s.setZ b).y = s.y := rfl
@[simp] theorem setZ_sp (s : State) (b : Bool) : (s.setZ b).sp = s.sp := rfl
@[simp] theorem setZ_pc (s : State) (b : Bool) : (s.setZ b).pc = s.pc := rfl
@[simp] theorem setZ_flagN (s : State) (b : Bool) : (s.setZ b).flagN = s.flagN := rfl
@[simp] theorem setZ_flagV (s : State) (b : Bool) : (s.setZ b).flagV = s.flagV := rfl
@[simp] theorem setZ_flagD (s : State) (b : Bool) : (s.setZ b).flagD = s.flagD := rfl
@[simp] theorem setZ_flagI (s : State) (b : Bool) : (s.setZ b).flagI = s.flagI := rfl
@[simp] theorem setZ_flagZ (s : State) (b : Bool) : (s.setZ b).flagZ = b := rfl
@[simp] theorem setZ_flagC (s : State) (b : Bool) : (s.setZ b).flagC = s.flagC := rfl
@[simp] theorem setZ_run (s : State) (b : Bool) : (s.setZ b).run = s.run := rfl
@[simp] theorem setZ_nmiLine (s : State) (b : Bool) : (s.setZ b).nmiLine = s.nmiLine := rfl
@[simp] theorem setZ_nmiLatch (s : State) (b : Bool) : (s.setZ b).nmiLatch = s.nmiLatch := rfl
@[simp] theorem setZ_irqLine (s : State) (b : Bool) : (s.setZ b).irqLine = s.irqLine := rfl
@[simp] theorem setZ_mem (s : State) (b : Bool) : (s.setZ b).mem = s.mem := rfl
@[simp] theorem setZ_uartQueue (s : State) (b : Bool) : (s.setZ b).uartQueue = s.uartQueue := rfl
@[simp] theorem setZ_uartOverrun (s : State) (b : Bool) : (s.setZ b).uartOverrun = s.uartOverrun := rfl
@[simp] theorem setZ_kbdMatrix (s : State) (b : Bool) : (s.setZ b).kbdMatrix = s.kbdMatrix := rfl
@[simp] theorem setZ_kbdRowSel (s : State) (b : Bool) : (s.setZ b).kbdRowSel = s.kbdRowSel := rfl
@[simp] theorem setZ_videoBuf (s : State) (b : Bool) : (s.setZ b).videoBuf = s.videoBuf := rfl
@[simp] theorem setZ_videoGen (s : State) (b : Bool) : (s.setZ b).videoGen = s.videoGen := rfl
@[simp] theorem setZ_videoSnapshot (s : State) (b : Bool) : (s.setZ b).videoSnapshot = s.videoSnapshot := rfl
@[simp] theorem setZ_frameCycles (s : State) (b : Bool) : (s.setZ b).frameCycles = s.frameCycles := rfl
@[simp] theorem setZ_bankSel (s : State) (b : Bool) : (s.setZ b).bankSel = s.bankSel := rfl
@[simp] theorem setZ_cycles (s : State) (b : Bool) : (s.setZ b).cycles = s.cycles := rfl
@[simp] theorem setZ_freeCount (s : State) (b : Bool) : (s.setZ b).freeCount = s.freeCount := rfl

@[simp] theorem setC_cfg (s : State) (b : Bool) : (s.setC b).cfg = s.cfg := rfl
@[simp] theorem setC_a (s : State) (b : Bool) : (s.setC b).a = s.a := rfl
@[simp] theorem setC_x (s : State) (b : Bool) : (s.setC b).x = s.x := rfl
@[simp] theorem setC_y (s : State) (b : Bool) : (s.setC b).y = s.y := rfl
@[simp] theorem setC_sp (s : State) (b : Bool) : (s.setC b).sp = s.sp := rfl
@[simp] theorem setC_pc (s : State) (b : Bool) : (s.setC b).pc = s.pc := rfl
@[simp] theorem setC_flagN (s : State) (b : Bool) : (s.setC b).flagN = s.flagN := rfl
@[simp] theorem setC_flagV (s : State) (b : Bool) : (s.setC b).flagV = s.flagV := rfl
@[simp] theorem setC_flagD (s : State) (b : Bool) : (s.setC b).flagD = s.flagD := rfl
@[simp] theorem setC_flagI (s : State) (b : Bool) : (s.setC b).flagI = s.flagI := rfl
@[simp] theorem setC_flagZ (s : State) (b : Bool) : (s.setC b).flagZ = s.flagZ := rfl
@[simp] theorem setC_flagC (s : State) (b : Bool) : (s.setC b).flagC = b := rfl
@[simp] theorem setC_run (s : State) (b : Bool) : (s.setC b).run = s.run := rfl
@[simp] theorem setC_nmiLine (s : State) (b : Bool) : (s.setC b).nmiLine = s.nmiLine := rfl
@[simp] theorem setC_nmiLatch (s : State) (b : Bool) : (s.setC b).nmiLatch = s.nmiLatch := rfl
@[simp] theorem setC_irqLine (s : State) (b : Bool) : (s.setC b).irqLine = s.irqLine := rfl
@[simp] theorem setC_mem (s : State) (b : Bool) : (s.setC b).mem = s.mem := rfl
@[simp] theorem setC_uartQueue (s : State) (b : Bool) : (s.setC b).uartQueue = s.uartQueue := rfl
@[simp] theorem setC_uartOverrun (s : State) (b : Bool) : (s.setC b).uartOverrun = s.uartOverrun := rfl
@[simp] theorem setC_kbdMatrix (s : State) (b : Bool) : (s.setC b).kbdMatrix = s.kbdMatrix := rfl
@[simp] theorem setC_kbdRowSel (s : State) (b : Bool) : (s.setC b).kbdRowSel = s.kbdRowSel := rfl
@[simp] theorem setC_videoBuf (s : State) (b : Bool) : (s.setC b).videoBuf = s.videoBuf := rfl
@[simp] theorem setC_videoGen (s : State) (b : Bool) : (s.setC b).videoGen = s.videoGen := rfl
@[simp] theorem setC_videoSnapshot (s : State) (b : Bool) : (s.setC b).videoSnapshot = s.videoSnapshot := rfl
@[simp] theorem setC_frameCycles (s : State) (b : Bool) : (s.setC b).frameCycles = s.frameCycles := rfl
@[simp] theorem setC_bankSel (s : State) (b : Bool) : (s.setC b).bankSel = s.bankSel := rfl
@[simp] theorem setC_cycles (s : State) (b : Bool) : (s.setC b).cycles = s.cycles := rfl
@[simp] theorem setC_freeCount (s : State) (b : Bool) : (s.setC b).freeCount = s.freeCount := rfl

@[simp] theorem setRun_cfg (s : State) (r : RunState) : (s.setRun r).cfg = s.cfg := rfl
@[simp] theorem setRun_a (s : State) (r : RunState) : (s.setRun r).a = s.a := rfl
@[simp] theorem setRun_x (s : State) (r : RunState) : (s.setRun r).x = s.x := rfl
@[simp] theorem setRun_y (s : State) (r : RunState) : (s.setRun r).y = s.y := rfl
@[simp] theorem setRun_sp (s : State) (r : RunState) : (s.setRun r).sp = s.sp := rfl
@[simp] theorem setRun_pc (s : State) (r : RunState) : (s.setRun r).pc = s.pc := rfl
@[simp] theorem setRun_flagN (s : State) (r : RunState) : (s.setRun r).flagN = s.flagN := rfl
@[simp] theorem setRun_flagV (s : State) (r : RunState) : (s.setRun r).flagV = s.flagV := rfl
@[simp] theorem setRun_flagD (s : State) (r : RunState) : (s.setRun r).flagD = s.flagD := rfl
@[simp] theorem setRun_flagI (s : State) (r : RunState) : (s.setRun r).flagI = s.flagI := rfl
@[simp] theorem setRun_flagZ (s : State) (r : RunState) : (s.setRun r).flagZ = s.flagZ := rfl
@[simp] theorem setRun_flagC (s : State) (r : RunState) : (s.setRun r).flagC = s.flagC := rfl
@[simp] theorem setRun_run (s : State) (r : RunState) : (s.setRun r).run = r := rfl
@[simp] theorem setRun_nmiLine (s : State) (r : RunState) : (s.setRun r).nmiLine = s.nmiLine := rfl
@[simp] theorem setRun_nmiLatch (s : State) (r : RunState) : (s.setRun r).nmiLatch = s.nmiLatch := rfl
@[simp] theorem setRun_irqLine (s : State) (r : RunState) : (s.setRun r).irqLine = s.irqLine := rfl
@[simp] theorem setRun_mem (s : State) (r : RunState) : (s.setRun r).mem = s.mem := rfl
@[simp] theorem setRun_uartQueue (s : State) (r : RunState) : (s.setRun r).uartQueue = s.uartQueue := rfl
@[simp] theorem setRun_uartOverrun (s : State) (r : RunState) : (s.setRun r).uartOverrun = s.uartOverrun := rfl
@[simp] theorem setRun_kbdMatrix (s : State) (r : RunState) : (s.setRun r).kbdMatrix = s.kbdMatrix := rfl
@[simp] theorem setRun_kbdRowSel (s : State) (r : RunState) : (s.setRun r).kbdRowSel = s.kbdRowSel := rfl
@[simp] theorem setRun_videoBuf (s : State) (r : RunState) : (s.setRun r).videoBuf = s.videoBuf := rfl
@[simp] theorem setRun_videoGen (s : State) (r : RunState) : (s.setRun r).videoGen = s.videoGen := rfl
@[simp] theorem setRun_videoSnapshot (s : State) (r : RunState) : (s.setRun r).videoSnapshot = s.videoSnapshot := rfl
@[simp] theorem setRun_frameCycles (s : State) (r : RunState) : (s.setRun r).frameCycles = s.frameCycles := rfl
@[simp] theorem setRun_bankSel (s : State) (r : RunState) : (s.setRun r).bankSel = s.bankSel := rfl
@[simp] theorem setRun_cycles (s : State) (r : RunState) : (s.setRun r).cycles = s.cycles := rfl
@[simp] theorem setRun_freeCount (s : State) (r : RunState) : (s.setRun r).freeCount = s.freeCount := rfl

@[simp] theorem setCycles_cfg (s : State) (n : Nat) : (s.setCycles n).cfg = s.cfg := rfl
@[simp] theorem setCycles_a (s : State) (n : Nat) : (s.setCycles n).a = s.a := rfl
@[simp] theorem setCycles_x (s : State) (n : Nat) : (s.setCycles n).x = s.x := rfl
@[simp] theorem setCycles_y (s : State) (n : Nat) : (s.setCycles n).y = s.y := rfl
@[simp] theorem setCycles_sp (s : State) (n : Nat) : (s.setCycles n).sp = s.sp := rfl
@[simp] theorem setCycles_pc (s : State) (n : Nat) : (s.setCycles n).pc = s.pc := rfl
@[simp] theorem setCycles_flagN (s : State) (n : Nat) : (s.setCycles n).flagN = s.flagN := rfl
@[simp] theorem setCycles_flagV (s : State) (n : Nat) : (s.setCycles n).flagV = s.flagV := rfl
@[simp] theorem setCycles_flagD (s : State) (n : Nat) : (s.setCycles n).flagD = s.flagD := rfl
@[simp] theorem setCycles_flagI (s : State) (n : Nat) : (s.setCycles n).flagI = s.flagI := rfl
@[simp] theorem setCycles_flagZ (s : State) (n : Nat) : (s.setCycles n).flagZ = s.flagZ := rfl
@[simp] theorem setCycles_flagC (s : State) (n : Nat) : (s.setCycles n).flagC = s.flagC := rfl
@[simp] theorem setCycles_run (s : State) (n : Nat) : (s.setCycles n).run = s.run := rfl
@[simp] theorem setCycles_nmiLine (s : State) (n : Nat) : (s.setCycles n).nmiLine = s.nmiLine := rfl
@[simp] theorem setCycles_nmiLatch (s : State) (n : Nat) : (s.setCycles n).nmiLatch = s.nmiLatch := rfl
@[simp] theorem setCycles_irqLine (s : State) (n : Nat) : (s.setCycles n).irqLine = s.irqLine := rfl
@[simp] theorem setCycles_mem (s : State) (n : Nat) : (s.setCycles n).mem = s.mem := rfl
@[simp] theorem setCycles_uartQueue (s : State) (n : Nat) : (s.setCycles n).uartQueue = s.uartQueue := rfl
@[simp] theorem setCycles_uartOverrun (s : State) (n : Nat) : (s.setCycles n).uartOverrun = s.uartOverrun := rfl
@[simp] theorem setCycles_kbdMatrix (s : State) (n : Nat) : (s.setCycles n).kbdMatrix = s.kbdMatrix := rfl
@[simp] theorem setCycles_kbdRowSel (s : State) (n : Nat) : (s.setCycles n).kbdRowSel = s.kbdRowSel := rfl
@[simp] theorem setCycles_videoBuf (s : State) (n : Nat) : (s.setCycles n).videoBuf = s.videoBuf := rfl
@[simp] theorem setCycles_videoGen (s : State) (n : Nat) : (s.setCycles n).videoGen = s.videoGen := rfl
@[simp] theorem setCycles_videoSnapshot (s : State) (n : Nat) : (s.setCycles n).videoSnapshot = s.videoSnapshot := rfl
@[simp] theorem setCycles_frameCycles (s : State) (n : Nat) : (s.setCycles n).frameCycles = s.frameCycles := rfl
@[simp] theorem setCycles_bankSel (s : State) (n : Nat) : (s.setCycles n).bankSel = s.bankSel := rfl
@[simp] theorem setCycles_cycles (s : State) (n : Nat) : (s.setCycles n).cycles = n := rfl
@[simp] theorem setCycles_freeCount (s : State) (n : Nat) : (s.setCycles n).freeCount = s.freeCount := rfl

@[simp] theorem setNZ_cfg (s : State) (v : Byte) : (s.setNZ v).cfg = s.cfg := rfl
@[simp] theorem setNZ_a (s : State) (v : Byte) : (s.setNZ v).a = s.a := rfl
@[simp] theorem setNZ_x (s : State) (v : Byte) : (s.setNZ v).x = s.x := rfl
@[simp] theorem setNZ_y (s : State) (v : Byte) : (s.setNZ v).y = s.y := rfl
@[simp] theorem setNZ_sp (s : State) (v : Byte) : (s.setNZ v).sp = s.sp := rfl
@[simp] theorem setNZ_pc (s : State) (v : Byte) : (s.setNZ v).pc = s.pc := rfl
@[simp] theorem setNZ_flagN (s : State) (v : Byte) : (s.setNZ v).flagN = v.getLsbD 7 := rfl
@[simp] theorem setNZ_flagV (s : State) (v : Byte) : (s.setNZ v).flagV = s.flagV := rfl
@[simp] theorem setNZ_flagD (s : State) (v : Byte) : (s.setNZ v).flagD = s.flagD := rfl
@[simp] theorem setNZ_flagI (s : State) (v : Byte) : (s.setNZ v).flagI = s.flagI := rfl
@[simp] theorem setNZ_flagZ (s : State) (v : Byte) : (s.setNZ v).flagZ = (v == 0x00) := rfl
@[simp] theorem setNZ_flagC (s : State) (v : Byte) : (s.setNZ v).flagC = s.flagC := rfl
@[simp] theorem setNZ_run (s : State) (v : Byte) : (s.setNZ v).run = s.run := rfl
@[simp] theorem setNZ_nmiLine (s : State) (v : Byte) : (s.setNZ v).nmiLine = s.nmiLine := rfl
@[simp] theorem setNZ_nmiLatch (s : State) (v : Byte) : (s.setNZ v).nmiLatch = s.nmiLatch := rfl
@[simp] theorem setNZ_irqLine (s : State) (v : Byte) : (s.setNZ v).irqLine = s.irqLine := rfl
@[simp] theorem setNZ_mem (s : State) (v : Byte) : (s.setNZ v).mem = s.mem := rfl
@[simp] theorem setNZ_uartQueue (s : State) (v : Byte) : (s.setNZ v).uartQueue = s.uartQueue := rfl
@[simp] theorem setNZ_uartOverrun (s : State) (v : Byte) : (s.setNZ v).uartOverrun = s.uartOverrun := rfl
@[simp] theorem setNZ_kbdMatrix (s : State) (v : Byte) : (s.setNZ v).kbdMatrix = s.kbdMatrix := rfl
@[simp] theorem setNZ_kbdRowSel (s : State) (v : Byte) : (s.setNZ v).kbdRowSel = s.kbdRowSel := rfl
@[simp] theorem setNZ_videoBuf (s : State) (v : Byte) : (s.setNZ v).videoBuf = s.videoBuf := rfl
@[simp] theorem setNZ_videoGen (s : State) (v : Byte) : (s.setNZ v).videoGen = s.videoGen := rfl
@[simp] theorem setNZ_videoSnapshot (s : State) (v : Byte) : (s.setNZ v).videoSnapshot = s.videoSnapshot := rfl
@[simp] theorem setNZ_frameCycles (s : State) (v : Byte) : (s.setNZ v).frameCycles = s.frameCycles := rfl
@[simp] theorem setNZ_bankSel (s : State) (v : Byte) : (s.setNZ v).bankSel = s.bankSel := rfl
@[simp] theorem setNZ_cycles (s : State) (v : Byte) : (s.setNZ v).cycles = s.cycles := rfl
@[simp] theorem setNZ_freeCount (s : State) (v : Byte) : (s.setNZ v).freeCount = s.freeCount := rfl

@[simp] theorem setP_cfg (s : State) (v : Byte) : (s.setP v).cfg = s.cfg := rfl
@[simp] theorem setP_a (s : State) (v : Byte) : (s.setP v).a = s.a := rfl
@[simp] theorem setP_x (s : State) (v : Byte) : (s.setP v).x = s.x := rfl
@[simp] theorem setP_y (s : State) (v : Byte) : (s.setP v).y = s.y := rfl
@[simp] theorem setP_sp (s : State) (v : Byte) : (s.setP v).sp = s.sp := rfl
@[simp] theorem setP_pc (s : State) (v : Byte) : (s.setP v).pc = s.pc := rfl
@[simp] theorem setP_flagN (s : State) (v : Byte) : (s.setP v).flagN = v.getLsbD 7 := rfl
@[simp] theorem setP_flagV (s : State) (v : Byte) : (s.setP v).flagV = v.getLsbD 6 := rfl
@[simp] theorem setP_flagD (s : State) (v : Byte) : (s.setP v).flagD = v.getLsbD 3 := rfl
@[simp] theorem setP_flagI (s : State) (v : Byte) : (s.setP v).flagI = v.getLsbD 2 := rfl
@[simp] theorem setP_flagZ (s : State) (v : Byte) : (s.setP v).flagZ = v.getLsbD 1 := rfl
@[simp] theorem setP_flagC (s : State) (v : Byte) : (s.setP v).flagC = v.getLsbD 0 := rfl
@[simp] theorem setP_run (s : State) (v : Byte) : (s.setP v).run = s.run := rfl
@[simp] theorem setP_nmiLine (s : State) (v : Byte) : (s.setP v).nmiLine = s.nmiLine := rfl
@[simp] theorem setP_nmiLatch (s : State) (v : Byte) : (s.setP v).nmiLatch = s.nmiLatch := rfl
@[simp] theorem setP_irqLine (s : State) (v : Byte) : (s.setP v).irqLine = s.irqLine := rfl
@[simp] theorem setP_mem (s : State) (v : Byte) : (s.setP v).mem = s.mem := rfl
@[simp] theorem setP_uartQueue (s : State) (v : Byte) : (s.setP v).uartQueue = s.uartQueue := rfl
@[simp] theorem setP_uartOverrun (s : State) (v : Byte) : (s.setP v).uartOverrun = s.uartOverrun := rfl
@[simp] theorem setP_kbdMatrix (s : State) (v : Byte) : (s.setP v).kbdMatrix = s.kbdMatrix := rfl
@[simp] theorem setP_kbdRowSel (s : State) (v : Byte) : (s.setP v).kbdRowSel = s.kbdRowSel := rfl
@[simp] theorem setP_videoBuf (s : State) (v : Byte) : (s.setP v).videoBuf = s.videoBuf := rfl
@[simp] theorem setP_videoGen (s : State) (v : Byte) : (s.setP v).videoGen = s.videoGen := rfl
@[simp] theorem setP_videoSnapshot (s : State) (v : Byte) : (s.setP v).videoSnapshot = s.videoSnapshot := rfl
@[simp] theorem setP_frameCycles (s : State) (v : Byte) : (s.setP v).frameCycles = s.frameCycles := rfl
@[simp] theorem setP_bankSel (s : State) (v : Byte) : (s.setP v).bankSel = s.bankSel := rfl
@[simp] theorem setP_cycles (s : State) (v : Byte) : (s.setP v).cycles = s.cycles := rfl
@[simp] theorem setP_freeCount (s : State) (v : Byte) : (s.setP v).freeCount = s.freeCount := rfl

@[simp] theorem setAlu_cfg (s : State) (o : AluOut) : (s.setAlu o).cfg = s.cfg := rfl
@[simp] theorem setAlu_a (s : State) (o : AluOut) : (s.setAlu o).a = o.r := rfl
@[simp] theorem setAlu_x (s : State) (o : AluOut) : (s.setAlu o).x = s.x := rfl
@[simp] theorem setAlu_y (s : State) (o : AluOut) : (s.setAlu o).y = s.y := rfl
@[simp] theorem setAlu_sp (s : State) (o : AluOut) : (s.setAlu o).sp = s.sp := rfl
@[simp] theorem setAlu_pc (s : State) (o : AluOut) : (s.setAlu o).pc = s.pc := rfl
@[simp] theorem setAlu_flagN (s : State) (o : AluOut) : (s.setAlu o).flagN = o.r.getLsbD 7 := rfl
@[simp] theorem setAlu_flagV (s : State) (o : AluOut) : (s.setAlu o).flagV = o.v := rfl
@[simp] theorem setAlu_flagD (s : State) (o : AluOut) : (s.setAlu o).flagD = s.flagD := rfl
@[simp] theorem setAlu_flagI (s : State) (o : AluOut) : (s.setAlu o).flagI = s.flagI := rfl
@[simp] theorem setAlu_flagZ (s : State) (o : AluOut) : (s.setAlu o).flagZ = (o.r == 0x00) := rfl
@[simp] theorem setAlu_flagC (s : State) (o : AluOut) : (s.setAlu o).flagC = o.c := rfl
@[simp] theorem setAlu_run (s : State) (o : AluOut) : (s.setAlu o).run = s.run := rfl
@[simp] theorem setAlu_nmiLine (s : State) (o : AluOut) : (s.setAlu o).nmiLine = s.nmiLine := rfl
@[simp] theorem setAlu_nmiLatch (s : State) (o : AluOut) : (s.setAlu o).nmiLatch = s.nmiLatch := rfl
@[simp] theorem setAlu_irqLine (s : State) (o : AluOut) : (s.setAlu o).irqLine = s.irqLine := rfl
@[simp] theorem setAlu_mem (s : State) (o : AluOut) : (s.setAlu o).mem = s.mem := rfl
@[simp] theorem setAlu_uartQueue (s : State) (o : AluOut) : (s.setAlu o).uartQueue = s.uartQueue := rfl
@[simp] theorem setAlu_uartOverrun (s : State) (o : AluOut) : (s.setAlu o).uartOverrun = s.uartOverrun := rfl
@[simp] theorem setAlu_kbdMatrix (s : State) (o : AluOut) : (s.setAlu o).kbdMatrix = s.kbdMatrix := rfl
@[simp] theorem setAlu_kbdRowSel (s : State) (o : AluOut) : (s.setAlu o).kbdRowSel = s.kbdRowSel := rfl
@[simp] theorem setAlu_videoBuf (s : State) (o : AluOut) : (s.setAlu o).videoBuf = s.videoBuf := rfl
@[simp] theorem setAlu_videoGen (s : State) (o : AluOut) : (s.setAlu o).videoGen = s.videoGen := rfl
@[simp] theorem setAlu_videoSnapshot (s : State) (o : AluOut) : (s.setAlu o).videoSnapshot = s.videoSnapshot := rfl
@[simp] theorem setAlu_frameCycles (s : State) (o : AluOut) : (s.setAlu o).frameCycles = s.frameCycles := rfl
@[simp] theorem setAlu_bankSel (s : State) (o : AluOut) : (s.setAlu o).bankSel = s.bankSel := rfl
@[simp] theorem setAlu_cycles (s : State) (o : AluOut) : (s.setAlu o).cycles = s.cycles := rfl
@[simp] theorem setAlu_freeCount (s : State) (o : AluOut) : (s.setAlu o).freeCount = s.freeCount := rfl

@[simp] theorem setIrq_cfg (s : State) (b : Bool) : (s.setIrq b).cfg = s.cfg := rfl
@[simp] theorem setIrq_a (s : State) (b : Bool) : (s.setIrq b).a = s.a := rfl
@[simp] theorem setIrq_x (s : State) (b : Bool) : (s.setIrq b).x = s.x := rfl
@[simp] theorem setIrq_y (s : State) (b : Bool) : (s.setIrq b).y = s.y := rfl
@[simp] theorem setIrq_sp (s : State) (b : Bool) : (s.setIrq b).sp = s.sp := rfl
@[simp] theorem setIrq_pc (s : State) (b : Bool) : (s.setIrq b).pc = s.pc := rfl
@[simp] theorem setIrq_flagN (s : State) (b : Bool) : (s.setIrq b).flagN = s.flagN := rfl
@[simp] theorem setIrq_flagV (s : State) (b : Bool) : (s.setIrq b).flagV = s.flagV := rfl
@[simp] theorem setIrq_flagD (s : State) (b : Bool) : (s.setIrq b).flagD = s.flagD := rfl
@[simp] theorem setIrq_flagI (s : State) (b : Bool) : (s.setIrq b).flagI = s.flagI := rfl
@[simp] theorem setIrq_flagZ (s : State) (b : Bool) : (s.setIrq b).flagZ = s.flagZ := rfl
@[simp] theorem setIrq_flagC (s : State) (b : Bool) : (s.setIrq b).flagC = s.flagC := rfl
@[simp] theorem setIrq_run (s : State) (b : Bool) : (s.setIrq b).run = s.run := rfl
@[simp] theorem setIrq_nmiLine (s : State) (b : Bool) : (s.setIrq b).nmiLine = s.nmiLine := rfl
@[simp] theorem setIrq_nmiLatch (s : State) (b : Bool) : (s.setIrq b).nmiLatch = s.nmiLatch := rfl
@[simp] theorem setIrq_irqLine (s : State) (b : Bool) : (s.setIrq b).irqLine = b := rfl
@[simp] theorem setIrq_mem (s : State) (b : Bool) : (s.setIrq b).mem = s.mem := rfl
@[simp] theorem setIrq_uartQueue (s : State) (b : Bool) : (s.setIrq b).uartQueue = s.uartQueue := rfl
@[simp] theorem setIrq_uartOverrun (s : State) (b : Bool) : (s.setIrq b).uartOverrun = s.uartOverrun := rfl
@[simp] theorem setIrq_kbdMatrix (s : State) (b : Bool) : (s.setIrq b).kbdMatrix = s.kbdMatrix := rfl
@[simp] theorem setIrq_kbdRowSel (s : State) (b : Bool) : (s.setIrq b).kbdRowSel = s.kbdRowSel := rfl
@[simp] theorem setIrq_videoBuf (s : State) (b : Bool) : (s.setIrq b).videoBuf = s.videoBuf := rfl
@[simp] theorem setIrq_videoGen (s : State) (b : Bool) : (s.setIrq b).videoGen = s.videoGen := rfl
@[simp] theorem setIrq_videoSnapshot (s : State) (b : Bool) : (s.setIrq b).videoSnapshot = s.videoSnapshot := rfl
@[simp] theorem setIrq_frameCycles (s : State) (b : Bool) : (s.setIrq b).frameCycles = s.frameCycles := rfl
@[simp] theorem setIrq_bankSel (s : State) (b : Bool) : (s.setIrq b).bankSel = s.bankSel := rfl
@[simp] theorem setIrq_cycles (s : State) (b : Bool) : (s.setIrq b).cycles = s.cycles := rfl
@[simp] theorem setIrq_freeCount (s : State) (b : Bool) : (s.setIrq b).freeCount = s.freeCount := rfl

@[simp] theorem charge_cfg (s : State) (k : Cost) (c : Bool) : (s.charge k c).cfg = s.cfg := rfl
@[simp] theorem charge_a (s : State) (k : Cost) (c : Bool) : (s.charge k c).a = s.a := rfl
@[simp] theorem charge_x (s : State) (k : Cost) (c : Bool) : (s.charge k c).x = s.x := rfl
@[simp] theorem charge_y (s : State) (k : Cost) (c : Bool) : (s.charge k c).y = s.y := rfl
@[simp] theorem charge_sp (s : State) (k : Cost) (c : Bool) : (s.charge k c).sp = s.sp := rfl
@[simp] theorem charge_pc (s : State) (k : Cost) (c : Bool) : (s.charge k c).pc = s.pc := rfl
@[simp] theorem charge_flagN (s : State) (k : Cost) (c : Bool) : (s.charge k c).flagN = s.flagN := rfl
@[simp] theorem charge_flagV (s : State) (k : Cost) (c : Bool) : (s.charge k c).flagV = s.flagV := rfl
@[simp] theorem charge_flagD (s : State) (k : Cost) (c : Bool) : (s.charge k c).flagD = s.flagD := rfl
@[simp] theorem charge_flagI (s : State) (k : Cost) (c : Bool) : (s.charge k c).flagI = s.flagI := rfl
@[simp] theorem charge_flagZ (s : State) (k : Cost) (c : Bool) : (s.charge k c).flagZ = s.flagZ := rfl
@[simp] theorem charge_flagC (s : State) (k : Cost) (c : Bool) : (s.charge k c).flagC = s.flagC := rfl
@[simp] theorem charge_run (s : State) (k : Cost) (c : Bool) : (s.charge k c).run = s.run := rfl
@[simp] theorem charge_nmiLine (s : State) (k : Cost) (c : Bool) : (s.charge k c).nmiLine = s.nmiLine := rfl
@[simp] theorem charge_nmiLatch (s : State) (k : Cost) (c : Bool) : (s.charge k c).nmiLatch = s.nmiLatch := rfl
@[simp] theorem charge_irqLine (s : State) (k : Cost) (c : Bool) : (s.charge k c).irqLine = s.irqLine := rfl
@[simp] theorem charge_mem (s : State) (k : Cost) (c : Bool) : (s.charge k c).mem = s.mem := rfl
@[simp] theorem charge_uartQueue (s : State) (k : Cost) (c : Bool) : (s.charge k c).uartQueue = s.uartQueue := rfl
@[simp] theorem charge_uartOverrun (s : State) (k : Cost) (c : Bool) : (s.charge k c).uartOverrun = s.uartOverrun := rfl
@[simp] theorem charge_kbdMatrix (s : State) (k : Cost) (c : Bool) : (s.charge k c).kbdMatrix = s.kbdMatrix := rfl
@[simp] theorem charge_kbdRowSel (s : State) (k : Cost) (c : Bool) : (s.charge k c).kbdRowSel = s.kbdRowSel := rfl
@[simp] theorem charge_videoBuf (s : State) (k : Cost) (c : Bool) : (s.charge k c).videoBuf = s.videoBuf := rfl
@[simp] theorem charge_videoGen (s : State) (k : Cost) (c : Bool) : (s.charge k c).videoGen = s.videoGen := rfl
@[simp] theorem charge_videoSnapshot (s : State) (k : Cost) (c : Bool) : (s.charge k c).videoSnapshot = s.videoSnapshot := rfl
@[simp] theorem charge_frameCycles (s : State) (k : Cost) (c : Bool) : (s.charge k c).frameCycles = s.frameCycles := rfl
@[simp] theorem charge_bankSel (s : State) (k : Cost) (c : Bool) : (s.charge k c).bankSel = s.bankSel := rfl
@[simp] theorem charge_cycles (s : State) (k : Cost) (c : Bool) : (s.charge k c).cycles = k.total c s.flagD := rfl
@[simp] theorem charge_freeCount (s : State) (k : Cost) (c : Bool) : (s.charge k c).freeCount = s.freeCount := rfl

@[simp] theorem compare_cfg (s : State) (r m : Byte) : (s.compare r m).cfg = s.cfg := rfl
@[simp] theorem compare_a (s : State) (r m : Byte) : (s.compare r m).a = s.a := rfl
@[simp] theorem compare_x (s : State) (r m : Byte) : (s.compare r m).x = s.x := rfl
@[simp] theorem compare_y (s : State) (r m : Byte) : (s.compare r m).y = s.y := rfl
@[simp] theorem compare_sp (s : State) (r m : Byte) : (s.compare r m).sp = s.sp := rfl
@[simp] theorem compare_pc (s : State) (r m : Byte) : (s.compare r m).pc = s.pc := rfl
@[simp] theorem compare_flagN (s : State) (r m : Byte) : (s.compare r m).flagN = (r - m).getLsbD 7 := rfl
@[simp] theorem compare_flagV (s : State) (r m : Byte) : (s.compare r m).flagV = s.flagV := rfl
@[simp] theorem compare_flagD (s : State) (r m : Byte) : (s.compare r m).flagD = s.flagD := rfl
@[simp] theorem compare_flagI (s : State) (r m : Byte) : (s.compare r m).flagI = s.flagI := rfl
@[simp] theorem compare_flagZ (s : State) (r m : Byte) : (s.compare r m).flagZ = (r == m) := rfl
@[simp] theorem compare_flagC (s : State) (r m : Byte) : (s.compare r m).flagC = decide (r.toNat ≥ m.toNat) := rfl
@[simp] theorem compare_run (s : State) (r m : Byte) : (s.compare r m).run = s.run := rfl
@[simp] theorem compare_nmiLine (s : State) (r m : Byte) : (s.compare r m).nmiLine = s.nmiLine := rfl
@[simp] theorem compare_nmiLatch (s : State) (r m : Byte) : (s.compare r m).nmiLatch = s.nmiLatch := rfl
@[simp] theorem compare_irqLine (s : State) (r m : Byte) : (s.compare r m).irqLine = s.irqLine := rfl
@[simp] theorem compare_mem (s : State) (r m : Byte) : (s.compare r m).mem = s.mem := rfl
@[simp] theorem compare_uartQueue (s : State) (r m : Byte) : (s.compare r m).uartQueue = s.uartQueue := rfl
@[simp] theorem compare_uartOverrun (s : State) (r m : Byte) : (s.compare r m).uartOverrun = s.uartOverrun := rfl
@[simp] theorem compare_kbdMatrix (s : State) (r m : Byte) : (s.compare r m).kbdMatrix = s.kbdMatrix := rfl
@[simp] theorem compare_kbdRowSel (s : State) (r m : Byte) : (s.compare r m).kbdRowSel = s.kbdRowSel := rfl
@[simp] theorem compare_videoBuf (s : State) (r m : Byte) : (s.compare r m).videoBuf = s.videoBuf := rfl
@[simp] theorem compare_videoGen (s : State) (r m : Byte) : (s.compare r m).videoGen = s.videoGen := rfl
@[simp] theorem compare_videoSnapshot (s : State) (r m : Byte) : (s.compare r m).videoSnapshot = s.videoSnapshot := rfl
@[simp] theorem compare_frameCycles (s : State) (r m : Byte) : (s.compare r m).frameCycles = s.frameCycles := rfl
@[simp] theorem compare_bankSel (s : State) (r m : Byte) : (s.compare r m).bankSel = s.bankSel := rfl
@[simp] theorem compare_cycles (s : State) (r m : Byte) : (s.compare r m).cycles = s.cycles := rfl
@[simp] theorem compare_freeCount (s : State) (r m : Byte) : (s.compare r m).freeCount = s.freeCount := rfl

@[simp] theorem setFreeDecimal_cfg (s : State) : s.setFreeDecimal.cfg = s.cfg := rfl
@[simp] theorem setFreeDecimal_a (s : State) : s.setFreeDecimal.a = Config.freeDecimalA s.freeCount := rfl
@[simp] theorem setFreeDecimal_x (s : State) : s.setFreeDecimal.x = s.x := rfl
@[simp] theorem setFreeDecimal_y (s : State) : s.setFreeDecimal.y = s.y := rfl
@[simp] theorem setFreeDecimal_sp (s : State) : s.setFreeDecimal.sp = s.sp := rfl
@[simp] theorem setFreeDecimal_pc (s : State) : s.setFreeDecimal.pc = s.pc := rfl
@[simp] theorem setFreeDecimal_flagN (s : State) : s.setFreeDecimal.flagN = Config.freeDecimalN s.freeCount := rfl
@[simp] theorem setFreeDecimal_flagV (s : State) : s.setFreeDecimal.flagV = Config.freeDecimalV s.freeCount := rfl
@[simp] theorem setFreeDecimal_flagD (s : State) : s.setFreeDecimal.flagD = s.flagD := rfl
@[simp] theorem setFreeDecimal_flagI (s : State) : s.setFreeDecimal.flagI = s.flagI := rfl
@[simp] theorem setFreeDecimal_flagZ (s : State) : s.setFreeDecimal.flagZ = Config.freeDecimalZ s.freeCount := rfl
@[simp] theorem setFreeDecimal_flagC (s : State) : s.setFreeDecimal.flagC = Config.freeDecimalC s.freeCount := rfl
@[simp] theorem setFreeDecimal_run (s : State) : s.setFreeDecimal.run = s.run := rfl
@[simp] theorem setFreeDecimal_nmiLine (s : State) : s.setFreeDecimal.nmiLine = s.nmiLine := rfl
@[simp] theorem setFreeDecimal_nmiLatch (s : State) : s.setFreeDecimal.nmiLatch = s.nmiLatch := rfl
@[simp] theorem setFreeDecimal_irqLine (s : State) : s.setFreeDecimal.irqLine = s.irqLine := rfl
@[simp] theorem setFreeDecimal_mem (s : State) : s.setFreeDecimal.mem = s.mem := rfl
@[simp] theorem setFreeDecimal_uartQueue (s : State) : s.setFreeDecimal.uartQueue = s.uartQueue := rfl
@[simp] theorem setFreeDecimal_uartOverrun (s : State) : s.setFreeDecimal.uartOverrun = s.uartOverrun := rfl
@[simp] theorem setFreeDecimal_kbdMatrix (s : State) : s.setFreeDecimal.kbdMatrix = s.kbdMatrix := rfl
@[simp] theorem setFreeDecimal_kbdRowSel (s : State) : s.setFreeDecimal.kbdRowSel = s.kbdRowSel := rfl
@[simp] theorem setFreeDecimal_videoBuf (s : State) : s.setFreeDecimal.videoBuf = s.videoBuf := rfl
@[simp] theorem setFreeDecimal_videoGen (s : State) : s.setFreeDecimal.videoGen = s.videoGen := rfl
@[simp] theorem setFreeDecimal_videoSnapshot (s : State) : s.setFreeDecimal.videoSnapshot = s.videoSnapshot := rfl
@[simp] theorem setFreeDecimal_frameCycles (s : State) : s.setFreeDecimal.frameCycles = s.frameCycles := rfl
@[simp] theorem setFreeDecimal_bankSel (s : State) : s.setFreeDecimal.bankSel = s.bankSel := rfl
@[simp] theorem setFreeDecimal_cycles (s : State) : s.setFreeDecimal.cycles = s.cycles := rfl
@[simp] theorem setFreeDecimal_freeCount (s : State) : s.setFreeDecimal.freeCount = s.freeCount + 1 := rfl

@[simp] theorem setNmi_cfg (s : State) (b : Bool) : (s.setNmi b).cfg = s.cfg := rfl
@[simp] theorem setNmi_a (s : State) (b : Bool) : (s.setNmi b).a = s.a := rfl
@[simp] theorem setNmi_x (s : State) (b : Bool) : (s.setNmi b).x = s.x := rfl
@[simp] theorem setNmi_y (s : State) (b : Bool) : (s.setNmi b).y = s.y := rfl
@[simp] theorem setNmi_sp (s : State) (b : Bool) : (s.setNmi b).sp = s.sp := rfl
@[simp] theorem setNmi_pc (s : State) (b : Bool) : (s.setNmi b).pc = s.pc := rfl
@[simp] theorem setNmi_flagN (s : State) (b : Bool) : (s.setNmi b).flagN = s.flagN := rfl
@[simp] theorem setNmi_flagV (s : State) (b : Bool) : (s.setNmi b).flagV = s.flagV := rfl
@[simp] theorem setNmi_flagD (s : State) (b : Bool) : (s.setNmi b).flagD = s.flagD := rfl
@[simp] theorem setNmi_flagI (s : State) (b : Bool) : (s.setNmi b).flagI = s.flagI := rfl
@[simp] theorem setNmi_flagZ (s : State) (b : Bool) : (s.setNmi b).flagZ = s.flagZ := rfl
@[simp] theorem setNmi_flagC (s : State) (b : Bool) : (s.setNmi b).flagC = s.flagC := rfl
@[simp] theorem setNmi_run (s : State) (b : Bool) : (s.setNmi b).run = s.run := rfl
@[simp] theorem setNmi_nmiLine (s : State) (b : Bool) : (s.setNmi b).nmiLine = b := rfl
@[simp] theorem setNmi_nmiLatch (s : State) (b : Bool) : (s.setNmi b).nmiLatch = (s.nmiLatch || (b && !s.nmiLine)) := rfl
@[simp] theorem setNmi_irqLine (s : State) (b : Bool) : (s.setNmi b).irqLine = s.irqLine := rfl
@[simp] theorem setNmi_mem (s : State) (b : Bool) : (s.setNmi b).mem = s.mem := rfl
@[simp] theorem setNmi_uartQueue (s : State) (b : Bool) : (s.setNmi b).uartQueue = s.uartQueue := rfl
@[simp] theorem setNmi_uartOverrun (s : State) (b : Bool) : (s.setNmi b).uartOverrun = s.uartOverrun := rfl
@[simp] theorem setNmi_kbdMatrix (s : State) (b : Bool) : (s.setNmi b).kbdMatrix = s.kbdMatrix := rfl
@[simp] theorem setNmi_kbdRowSel (s : State) (b : Bool) : (s.setNmi b).kbdRowSel = s.kbdRowSel := rfl
@[simp] theorem setNmi_videoBuf (s : State) (b : Bool) : (s.setNmi b).videoBuf = s.videoBuf := rfl
@[simp] theorem setNmi_videoGen (s : State) (b : Bool) : (s.setNmi b).videoGen = s.videoGen := rfl
@[simp] theorem setNmi_videoSnapshot (s : State) (b : Bool) : (s.setNmi b).videoSnapshot = s.videoSnapshot := rfl
@[simp] theorem setNmi_frameCycles (s : State) (b : Bool) : (s.setNmi b).frameCycles = s.frameCycles := rfl
@[simp] theorem setNmi_bankSel (s : State) (b : Bool) : (s.setNmi b).bankSel = s.bankSel := rfl
@[simp] theorem setNmi_cycles (s : State) (b : Bool) : (s.setNmi b).cycles = s.cycles := rfl
@[simp] theorem setNmi_freeCount (s : State) (b : Bool) : (s.setNmi b).freeCount = s.freeCount := rfl

end Sys2Proof.Laws
end

