-- ==== Sys2Proof/Laws/Ops.lean ====
section
/-! SUPPORT. What each shared operation can do, said once: which fields of the state it may change, and
what it gives. Provers cite these instead of unfolding the operations. -/

namespace Sys2Proof.Laws

open Sys2Proof.Machine

/-! The Bus does not see the CPU registers. -/

@[simp] theorem busValue_setA (s : State) (v : Byte) (a : Word) : (s.setA v).busValue a = s.busValue a := rfl
@[simp] theorem regionAt_setA (s : State) (v : Byte) (a : Word) : (s.setA v).regionAt a = s.regionAt a := rfl
@[simp] theorem busValue_setX (s : State) (v : Byte) (a : Word) : (s.setX v).busValue a = s.busValue a := rfl
@[simp] theorem regionAt_setX (s : State) (v : Byte) (a : Word) : (s.setX v).regionAt a = s.regionAt a := rfl
@[simp] theorem busValue_setY (s : State) (v : Byte) (a : Word) : (s.setY v).busValue a = s.busValue a := rfl
@[simp] theorem regionAt_setY (s : State) (v : Byte) (a : Word) : (s.setY v).regionAt a = s.regionAt a := rfl
@[simp] theorem busValue_setSP (s : State) (v : Byte) (a : Word) : (s.setSP v).busValue a = s.busValue a := rfl
@[simp] theorem regionAt_setSP (s : State) (v : Byte) (a : Word) : (s.setSP v).regionAt a = s.regionAt a := rfl
@[simp] theorem busValue_setPC (s : State) (w : Word) (a : Word) : (s.setPC w).busValue a = s.busValue a := rfl
@[simp] theorem regionAt_setPC (s : State) (w : Word) (a : Word) : (s.setPC w).regionAt a = s.regionAt a := rfl
@[simp] theorem busValue_setV (s : State) (b : Bool) (a : Word) : (s.setV b).busValue a = s.busValue a := rfl
@[simp] theorem regionAt_setV (s : State) (b : Bool) (a : Word) : (s.setV b).regionAt a = s.regionAt a := rfl
@[simp] theorem busValue_setD (s : State) (b : Bool) (a : Word) : (s.setD b).busValue a = s.busValue a := rfl
@[simp] theorem regionAt_setD (s : State) (b : Bool) (a : Word) : (s.setD b).regionAt a = s.regionAt a := rfl
@[simp] theorem busValue_setI (s : State) (b : Bool) (a : Word) : (s.setI b).busValue a = s.busValue a := rfl
@[simp] theorem regionAt_setI (s : State) (b : Bool) (a : Word) : (s.setI b).regionAt a = s.regionAt a := rfl
@[simp] theorem busValue_setZ (s : State) (b : Bool) (a : Word) : (s.setZ b).busValue a = s.busValue a := rfl
@[simp] theorem regionAt_setZ (s : State) (b : Bool) (a : Word) : (s.setZ b).regionAt a = s.regionAt a := rfl
@[simp] theorem busValue_setC (s : State) (b : Bool) (a : Word) : (s.setC b).busValue a = s.busValue a := rfl
@[simp] theorem regionAt_setC (s : State) (b : Bool) (a : Word) : (s.setC b).regionAt a = s.regionAt a := rfl
@[simp] theorem busValue_setRun (s : State) (r : RunState) (a : Word) : (s.setRun r).busValue a = s.busValue a := rfl
@[simp] theorem regionAt_setRun (s : State) (r : RunState) (a : Word) : (s.setRun r).regionAt a = s.regionAt a := rfl
@[simp] theorem busValue_setCycles (s : State) (n : Nat) (a : Word) : (s.setCycles n).busValue a = s.busValue a := rfl
@[simp] theorem regionAt_setCycles (s : State) (n : Nat) (a : Word) : (s.setCycles n).regionAt a = s.regionAt a := rfl
@[simp] theorem busValue_setNZ (s : State) (v : Byte) (a : Word) : (s.setNZ v).busValue a = s.busValue a := rfl
@[simp] theorem regionAt_setNZ (s : State) (v : Byte) (a : Word) : (s.setNZ v).regionAt a = s.regionAt a := rfl
@[simp] theorem busValue_setP (s : State) (v : Byte) (a : Word) : (s.setP v).busValue a = s.busValue a := rfl
@[simp] theorem regionAt_setP (s : State) (v : Byte) (a : Word) : (s.setP v).regionAt a = s.regionAt a := rfl
@[simp] theorem busValue_setAlu (s : State) (o : AluOut) (a : Word) : (s.setAlu o).busValue a = s.busValue a := rfl
@[simp] theorem regionAt_setAlu (s : State) (o : AluOut) (a : Word) : (s.setAlu o).regionAt a = s.regionAt a := rfl
@[simp] theorem busValue_charge (s : State) (k : Cost) (c : Bool) (a : Word) : (s.charge k c).busValue a = s.busValue a := rfl
@[simp] theorem regionAt_charge (s : State) (k : Cost) (c : Bool) (a : Word) : (s.charge k c).regionAt a = s.regionAt a := rfl

/-- A Bus read returns the byte and changes the UART queue at most (R54, R62). -/
theorem read8_spec (s : State) (a : Word) :
    s.read8 a = (s.busValue a, { s with uartQueue := s.queueAfterRead a }) := rfl

@[simp] theorem read8_value (s : State) (a : Word) : (s.read8 a).1 = s.busValue a := rfl
@[simp] theorem read8_cfg (s : State) (a : Word) : (s.read8 a).2.cfg = s.cfg := rfl
@[simp] theorem read8_a (s : State) (a : Word) : (s.read8 a).2.a = s.a := rfl
@[simp] theorem read8_x (s : State) (a : Word) : (s.read8 a).2.x = s.x := rfl
@[simp] theorem read8_y (s : State) (a : Word) : (s.read8 a).2.y = s.y := rfl
@[simp] theorem read8_sp (s : State) (a : Word) : (s.read8 a).2.sp = s.sp := rfl
@[simp] theorem read8_pc (s : State) (a : Word) : (s.read8 a).2.pc = s.pc := rfl
@[simp] theorem read8_flagN (s : State) (a : Word) : (s.read8 a).2.flagN = s.flagN := rfl
@[simp] theorem read8_flagV (s : State) (a : Word) : (s.read8 a).2.flagV = s.flagV := rfl
@[simp] theorem read8_flagD (s : State) (a : Word) : (s.read8 a).2.flagD = s.flagD := rfl
@[simp] theorem read8_flagI (s : State) (a : Word) : (s.read8 a).2.flagI = s.flagI := rfl
@[simp] theorem read8_flagZ (s : State) (a : Word) : (s.read8 a).2.flagZ = s.flagZ := rfl
@[simp] theorem read8_flagC (s : State) (a : Word) : (s.read8 a).2.flagC = s.flagC := rfl
@[simp] theorem read8_run (s : State) (a : Word) : (s.read8 a).2.run = s.run := rfl
@[simp] theorem read8_nmiLine (s : State) (a : Word) : (s.read8 a).2.nmiLine = s.nmiLine := rfl
@[simp] theorem read8_nmiLatch (s : State) (a : Word) : (s.read8 a).2.nmiLatch = s.nmiLatch := rfl
@[simp] theorem read8_irqLine (s : State) (a : Word) : (s.read8 a).2.irqLine = s.irqLine := rfl
@[simp] theorem read8_mem (s : State) (a : Word) : (s.read8 a).2.mem = s.mem := rfl
@[simp] theorem read8_uartOverrun (s : State) (a : Word) : (s.read8 a).2.uartOverrun = s.uartOverrun := rfl
@[simp] theorem read8_kbdMatrix (s : State) (a : Word) : (s.read8 a).2.kbdMatrix = s.kbdMatrix := rfl
@[simp] theorem read8_kbdRowSel (s : State) (a : Word) : (s.read8 a).2.kbdRowSel = s.kbdRowSel := rfl
@[simp] theorem read8_videoBuf (s : State) (a : Word) : (s.read8 a).2.videoBuf = s.videoBuf := rfl
@[simp] theorem read8_videoGen (s : State) (a : Word) : (s.read8 a).2.videoGen = s.videoGen := rfl
@[simp] theorem read8_videoSnapshot (s : State) (a : Word) : (s.read8 a).2.videoSnapshot = s.videoSnapshot := rfl
@[simp] theorem read8_frameCycles (s : State) (a : Word) : (s.read8 a).2.frameCycles = s.frameCycles := rfl
@[simp] theorem read8_bankSel (s : State) (a : Word) : (s.read8 a).2.bankSel = s.bankSel := rfl
@[simp] theorem read8_cycles (s : State) (a : Word) : (s.read8 a).2.cycles = s.cycles := rfl
@[simp] theorem read8_freeCount (s : State) (a : Word) : (s.read8 a).2.freeCount = s.freeCount := rfl

@[simp] theorem read8_uartQueue (s : State) (a : Word) : (s.read8 a).2.uartQueue = s.queueAfterRead a := rfl
@[simp] theorem read8_regionAt (s : State) (a b : Word) : (s.read8 a).2.regionAt b = s.regionAt b := rfl

/-- A read takes at most the oldest byte off the UART queue (R62, R65). -/
theorem queueAfterRead_cases (s : State) (a : Word) :
    s.queueAfterRead a = s.uartQueue ∨
      (s.regionAt a = some .uart ∧ a = s.cfg.uartDataAddr ∧ s.queueAfterRead a = s.uartQueue.tail) := by
  unfold State.queueAfterRead
  split
  · rename_i h
    unfold State.uartAfterRead
    split
    · exact .inl rfl
    · split
      · rename_i hd; exact .inr ⟨h, hd, rfl⟩
      · exact .inl rfl
  · exact .inl rfl

/-- The queue after a read is a suffix of the queue before. -/
theorem queueAfterRead_suffix (s : State) (a : Word) : s.queueAfterRead a <:+ s.uartQueue := by
  rcases queueAfterRead_cases s a with h | ⟨_, _, h⟩
  · exact h.symm ▸ List.suffix_refl _
  · rw [h]; exact List.tail_suffix _

/-- A Bus write changes one of four places, by the region of its address (R55). -/
theorem write8_cases (s : State) (a : Word) (v : Byte) :
    (s.regionAt a = some .ram ∧ s.write8 a v = { s with mem := s.mem.write a.toNat v }) ∨
    (s.regionAt a = some .keyboard ∧ a = s.cfg.kbdRowAddr ∧ s.write8 a v = { s with kbdRowSel := v }) ∨
    (s.regionAt a = some .video ∧
      s.write8 a v = { s with videoBuf := s.videoBuf.write (s.videoOffset a) v }) ∨
    (s.regionAt a = some .bankReg ∧ s.write8 a v = { s with bankSel := s.bankSelect v }) ∨
    (s.regionAt a ≠ some .ram ∧ s.regionAt a ≠ some .video ∧ s.regionAt a ≠ some .bankReg ∧
      (s.regionAt a = some .keyboard → a ≠ s.cfg.kbdRowAddr) ∧ s.write8 a v = s) := by
  unfold State.write8
  split <;> rename_i h
  · simp [h]
  · exact .inl ⟨h, rfl⟩
  · simp [h]
  · simp [h]
  · split
    · rename_i hr; exact .inr (.inl ⟨h, hr, rfl⟩)
    · rename_i hr; simp [h, hr]
  · exact .inr (.inr (.inl ⟨h, rfl⟩))
  · exact .inr (.inr (.inr (.inl ⟨h, rfl⟩)))
  · simp [h]

/-- A Bus write changes nothing but the four places it can store to. -/
theorem write8_frame (s : State) (a : Word) (v : Byte) :
    s.write8 a v = { s with
      mem := (s.write8 a v).mem, videoBuf := (s.write8 a v).videoBuf,
      kbdRowSel := (s.write8 a v).kbdRowSel, bankSel := (s.write8 a v).bankSel } := by
  rcases write8_cases s a v with ⟨_, h⟩ | ⟨_, _, h⟩ | ⟨_, h⟩ | ⟨_, h⟩ | ⟨_, _, _, _, h⟩ <;> rw [h]

@[simp] theorem write8_cfg (s : State) (a : Word) (v : Byte) : (s.write8 a v).cfg = s.cfg := by rw [write8_frame]
@[simp] theorem write8_a (s : State) (a : Word) (v : Byte) : (s.write8 a v).a = s.a := by rw [write8_frame]
@[simp] theorem write8_x (s : State) (a : Word) (v : Byte) : (s.write8 a v).x = s.x := by rw [write8_frame]
@[simp] theorem write8_y (s : State) (a : Word) (v : Byte) : (s.write8 a v).y = s.y := by rw [write8_frame]
@[simp] theorem write8_sp (s : State) (a : Word) (v : Byte) : (s.write8 a v).sp = s.sp := by rw [write8_frame]
@[simp] theorem write8_pc (s : State) (a : Word) (v : Byte) : (s.write8 a v).pc = s.pc := by rw [write8_frame]
@[simp] theorem write8_flagN (s : State) (a : Word) (v : Byte) : (s.write8 a v).flagN = s.flagN := by rw [write8_frame]
@[simp] theorem write8_flagV (s : State) (a : Word) (v : Byte) : (s.write8 a v).flagV = s.flagV := by rw [write8_frame]
@[simp] theorem write8_flagD (s : State) (a : Word) (v : Byte) : (s.write8 a v).flagD = s.flagD := by rw [write8_frame]
@[simp] theorem write8_flagI (s : State) (a : Word) (v : Byte) : (s.write8 a v).flagI = s.flagI := by rw [write8_frame]
@[simp] theorem write8_flagZ (s : State) (a : Word) (v : Byte) : (s.write8 a v).flagZ = s.flagZ := by rw [write8_frame]
@[simp] theorem write8_flagC (s : State) (a : Word) (v : Byte) : (s.write8 a v).flagC = s.flagC := by rw [write8_frame]
@[simp] theorem write8_run (s : State) (a : Word) (v : Byte) : (s.write8 a v).run = s.run := by rw [write8_frame]
@[simp] theorem write8_nmiLine (s : State) (a : Word) (v : Byte) : (s.write8 a v).nmiLine = s.nmiLine := by rw [write8_frame]
@[simp] theorem write8_nmiLatch (s : State) (a : Word) (v : Byte) : (s.write8 a v).nmiLatch = s.nmiLatch := by rw [write8_frame]
@[simp] theorem write8_irqLine (s : State) (a : Word) (v : Byte) : (s.write8 a v).irqLine = s.irqLine := by rw [write8_frame]
@[simp] theorem write8_uartQueue (s : State) (a : Word) (v : Byte) : (s.write8 a v).uartQueue = s.uartQueue := by rw [write8_frame]
@[simp] theorem write8_uartOverrun (s : State) (a : Word) (v : Byte) : (s.write8 a v).uartOverrun = s.uartOverrun := by rw [write8_frame]
@[simp] theorem write8_kbdMatrix (s : State) (a : Word) (v : Byte) : (s.write8 a v).kbdMatrix = s.kbdMatrix := by rw [write8_frame]
@[simp] theorem write8_videoGen (s : State) (a : Word) (v : Byte) : (s.write8 a v).videoGen = s.videoGen := by rw [write8_frame]
@[simp] theorem write8_videoSnapshot (s : State) (a : Word) (v : Byte) : (s.write8 a v).videoSnapshot = s.videoSnapshot := by rw [write8_frame]
@[simp] theorem write8_frameCycles (s : State) (a : Word) (v : Byte) : (s.write8 a v).frameCycles = s.frameCycles := by rw [write8_frame]
@[simp] theorem write8_cycles (s : State) (a : Word) (v : Byte) : (s.write8 a v).cycles = s.cycles := by rw [write8_frame]
@[simp] theorem write8_freeCount (s : State) (a : Word) (v : Byte) : (s.write8 a v).freeCount = s.freeCount := by rw [write8_frame]

@[simp] theorem write8_regionAt (s : State) (a b : Word) (v : Byte) : (s.write8 a v).regionAt b = s.regionAt b := by
  unfold State.regionAt; rw [write8_cfg]

/-! Fetching (R12): PC moves on and the UART queue may lose a byte. -/

@[simp] theorem operandFetch_cfg (s : State) : s.operandFetch.cfg = s.cfg := rfl
@[simp] theorem operandFetch_a (s : State) : s.operandFetch.a = s.a := rfl
@[simp] theorem operandFetch_x (s : State) : s.operandFetch.x = s.x := rfl
@[simp] theorem operandFetch_y (s : State) : s.operandFetch.y = s.y := rfl
@[simp] theorem operandFetch_sp (s : State) : s.operandFetch.sp = s.sp := rfl
@[simp] theorem operandFetch_flagN (s : State) : s.operandFetch.flagN = s.flagN := rfl
@[simp] theorem operandFetch_flagV (s : State) : s.operandFetch.flagV = s.flagV := rfl
@[simp] theorem operandFetch_flagD (s : State) : s.operandFetch.flagD = s.flagD := rfl
@[simp] theorem operandFetch_flagI (s : State) : s.operandFetch.flagI = s.flagI := rfl
@[simp] theorem operandFetch_flagZ (s : State) : s.operandFetch.flagZ = s.flagZ := rfl
@[simp] theorem operandFetch_flagC (s : State) : s.operandFetch.flagC = s.flagC := rfl
@[simp] theorem operandFetch_run (s : State) : s.operandFetch.run = s.run := rfl
@[simp] theorem operandFetch_nmiLine (s : State) : s.operandFetch.nmiLine = s.nmiLine := rfl
@[simp] theorem operandFetch_nmiLatch (s : State) : s.operandFetch.nmiLatch = s.nmiLatch := rfl
@[simp] theorem operandFetch_irqLine (s : State) : s.operandFetch.irqLine = s.irqLine := rfl
@[simp] theorem operandFetch_mem (s : State) : s.operandFetch.mem = s.mem := rfl
@[simp] theorem operandFetch_uartOverrun (s : State) : s.operandFetch.uartOverrun = s.uartOverrun := rfl
@[simp] theorem operandFetch_kbdMatrix (s : State) : s.operandFetch.kbdMatrix = s.kbdMatrix := rfl
@[simp] theorem operandFetch_kbdRowSel (s : State) : s.operandFetch.kbdRowSel = s.kbdRowSel := rfl
@[simp] theorem operandFetch_videoBuf (s : State) : s.operandFetch.videoBuf = s.videoBuf := rfl
@[simp] theorem operandFetch_videoGen (s : State) : s.operandFetch.videoGen = s.videoGen := rfl
@[simp] theorem operandFetch_videoSnapshot (s : State) : s.operandFetch.videoSnapshot = s.videoSnapshot := rfl
@[simp] theorem operandFetch_frameCycles (s : State) : s.operandFetch.frameCycles = s.frameCycles := rfl
@[simp] theorem operandFetch_bankSel (s : State) : s.operandFetch.bankSel = s.bankSel := rfl
@[simp] theorem operandFetch_cycles (s : State) : s.operandFetch.cycles = s.cycles := rfl
@[simp] theorem operandFetch_freeCount (s : State) : s.operandFetch.freeCount = s.freeCount := rfl

@[simp] theorem operandFetch_pc (s : State) : s.operandFetch.pc = s.pc + 1 := rfl
@[simp] theorem operandFetch_uartQueue (s : State) : s.operandFetch.uartQueue = s.queueAfterRead s.pc := rfl
@[simp] theorem operandFetch_regionAt (s : State) (b : Word) : s.operandFetch.regionAt b = s.regionAt b := rfl

/-! The stack (R13, R23). -/

@[simp] theorem push8_cfg (s : State) (v : Byte) : (s.push8 v).cfg = s.cfg := write8_cfg s _ v
@[simp] theorem push8_a (s : State) (v : Byte) : (s.push8 v).a = s.a := write8_a s _ v
@[simp] theorem push8_x (s : State) (v : Byte) : (s.push8 v).x = s.x := write8_x s _ v
@[simp] theorem push8_y (s : State) (v : Byte) : (s.push8 v).y = s.y := write8_y s _ v
@[simp] theorem push8_pc (s : State) (v : Byte) : (s.push8 v).pc = s.pc := write8_pc s _ v
@[simp] theorem push8_flagN (s : State) (v : Byte) : (s.push8 v).flagN = s.flagN := write8_flagN s _ v
@[simp] theorem push8_flagV (s : State) (v : Byte) : (s.push8 v).flagV = s.flagV := write8_flagV s _ v
@[simp] theorem push8_flagD (s : State) (v : Byte) : (s.push8 v).flagD = s.flagD := write8_flagD s _ v
@[simp] theorem push8_flagI (s : State) (v : Byte) : (s.push8 v).flagI = s.flagI := write8_flagI s _ v
@[simp] theorem push8_flagZ (s : State) (v : Byte) : (s.push8 v).flagZ = s.flagZ := write8_flagZ s _ v
@[simp] theorem push8_flagC (s : State) (v : Byte) : (s.push8 v).flagC = s.flagC := write8_flagC s _ v
@[simp] theorem push8_run (s : State) (v : Byte) : (s.push8 v).run = s.run := write8_run s _ v
@[simp] theorem push8_nmiLine (s : State) (v : Byte) : (s.push8 v).nmiLine = s.nmiLine := write8_nmiLine s _ v
@[simp] theorem push8_nmiLatch (s : State) (v : Byte) : (s.push8 v).nmiLatch = s.nmiLatch := write8_nmiLatch s _ v
@[simp] theorem push8_irqLine (s : State) (v : Byte) : (s.push8 v).irqLine = s.irqLine := write8_irqLine s _ v
@[simp] theorem push8_uartQueue (s : State) (v : Byte) : (s.push8 v).uartQueue = s.uartQueue := write8_uartQueue s _ v
@[simp] theorem push8_uartOverrun (s : State) (v : Byte) : (s.push8 v).uartOverrun = s.uartOverrun := write8_uartOverrun s _ v
@[simp] theorem push8_kbdMatrix (s : State) (v : Byte) : (s.push8 v).kbdMatrix = s.kbdMatrix := write8_kbdMatrix s _ v
@[simp] theorem push8_videoGen (s : State) (v : Byte) : (s.push8 v).videoGen = s.videoGen := write8_videoGen s _ v
@[simp] theorem push8_videoSnapshot (s : State) (v : Byte) : (s.push8 v).videoSnapshot = s.videoSnapshot := write8_videoSnapshot s _ v
@[simp] theorem push8_frameCycles (s : State) (v : Byte) : (s.push8 v).frameCycles = s.frameCycles := write8_frameCycles s _ v
@[simp] theorem push8_cycles (s : State) (v : Byte) : (s.push8 v).cycles = s.cycles := write8_cycles s _ v
@[simp] theorem push8_freeCount (s : State) (v : Byte) : (s.push8 v).freeCount = s.freeCount := write8_freeCount s _ v

@[simp] theorem push8_sp (s : State) (v : Byte) : (s.push8 v).sp = s.sp - 1 := rfl
@[simp] theorem push8_regionAt (s : State) (v : Byte) (b : Word) : (s.push8 v).regionAt b = s.regionAt b := by
  unfold State.push8; simp

@[simp] theorem push16_cfg (s : State) (w : Word) : (s.push16 w).cfg = s.cfg := (push8_cfg _ _).trans (push8_cfg s _)
@[simp] theorem push16_a (s : State) (w : Word) : (s.push16 w).a = s.a := (push8_a _ _).trans (push8_a s _)
@[simp] theorem push16_x (s : State) (w : Word) : (s.push16 w).x = s.x := (push8_x _ _).trans (push8_x s _)
@[simp] theorem push16_y (s : State) (w : Word) : (s.push16 w).y = s.y := (push8_y _ _).trans (push8_y s _)
@[simp] theorem push16_pc (s : State) (w : Word) : (s.push16 w).pc = s.pc := (push8_pc _ _).trans (push8_pc s _)
@[simp] theorem push16_flagN (s : State) (w : Word) : (s.push16 w).flagN = s.flagN := (push8_flagN _ _).trans (push8_flagN s _)
@[simp] theorem push16_flagV (s : State) (w : Word) : (s.push16 w).flagV = s.flagV := (push8_flagV _ _).trans (push8_flagV s _)
@[simp] theorem push16_flagD (s : State) (w : Word) : (s.push16 w).flagD = s.flagD := (push8_flagD _ _).trans (push8_flagD s _)
@[simp] theorem push16_flagI (s : State) (w : Word) : (s.push16 w).flagI = s.flagI := (push8_flagI _ _).trans (push8_flagI s _)
@[simp] theorem push16_flagZ (s : State) (w : Word) : (s.push16 w).flagZ = s.flagZ := (push8_flagZ _ _).trans (push8_flagZ s _)
@[simp] theorem push16_flagC (s : State) (w : Word) : (s.push16 w).flagC = s.flagC := (push8_flagC _ _).trans (push8_flagC s _)
@[simp] theorem push16_run (s : State) (w : Word) : (s.push16 w).run = s.run := (push8_run _ _).trans (push8_run s _)
@[simp] theorem push16_nmiLine (s : State) (w : Word) : (s.push16 w).nmiLine = s.nmiLine := (push8_nmiLine _ _).trans (push8_nmiLine s _)
@[simp] theorem push16_nmiLatch (s : State) (w : Word) : (s.push16 w).nmiLatch = s.nmiLatch := (push8_nmiLatch _ _).trans (push8_nmiLatch s _)
@[simp] theorem push16_irqLine (s : State) (w : Word) : (s.push16 w).irqLine = s.irqLine := (push8_irqLine _ _).trans (push8_irqLine s _)
@[simp] theorem push16_uartQueue (s : State) (w : Word) : (s.push16 w).uartQueue = s.uartQueue := (push8_uartQueue _ _).trans (push8_uartQueue s _)
@[simp] theorem push16_uartOverrun (s : State) (w : Word) : (s.push16 w).uartOverrun = s.uartOverrun := (push8_uartOverrun _ _).trans (push8_uartOverrun s _)
@[simp] theorem push16_kbdMatrix (s : State) (w : Word) : (s.push16 w).kbdMatrix = s.kbdMatrix := (push8_kbdMatrix _ _).trans (push8_kbdMatrix s _)
@[simp] theorem push16_videoGen (s : State) (w : Word) : (s.push16 w).videoGen = s.videoGen := (push8_videoGen _ _).trans (push8_videoGen s _)
@[simp] theorem push16_videoSnapshot (s : State) (w : Word) : (s.push16 w).videoSnapshot = s.videoSnapshot := (push8_videoSnapshot _ _).trans (push8_videoSnapshot s _)
@[simp] theorem push16_frameCycles (s : State) (w : Word) : (s.push16 w).frameCycles = s.frameCycles := (push8_frameCycles _ _).trans (push8_frameCycles s _)
@[simp] theorem push16_cycles (s : State) (w : Word) : (s.push16 w).cycles = s.cycles := (push8_cycles _ _).trans (push8_cycles s _)
@[simp] theorem push16_freeCount (s : State) (w : Word) : (s.push16 w).freeCount = s.freeCount := (push8_freeCount _ _).trans (push8_freeCount s _)

@[simp] theorem push16_sp (s : State) (w : Word) : (s.push16 w).sp = s.sp - 1 - 1 := rfl

@[simp] theorem pull8_cfg (s : State) : s.pull8.2.cfg = s.cfg := read8_cfg (s.setSP (s.sp + 1)) _
@[simp] theorem pull8_a (s : State) : s.pull8.2.a = s.a := read8_a (s.setSP (s.sp + 1)) _
@[simp] theorem pull8_x (s : State) : s.pull8.2.x = s.x := read8_x (s.setSP (s.sp + 1)) _
@[simp] theorem pull8_y (s : State) : s.pull8.2.y = s.y := read8_y (s.setSP (s.sp + 1)) _
@[simp] theorem pull8_pc (s : State) : s.pull8.2.pc = s.pc := read8_pc (s.setSP (s.sp + 1)) _
@[simp] theorem pull8_flagN (s : State) : s.pull8.2.flagN = s.flagN := read8_flagN (s.setSP (s.sp + 1)) _
@[simp] theorem pull8_flagV (s : State) : s.pull8.2.flagV = s.flagV := read8_flagV (s.setSP (s.sp + 1)) _
@[simp] theorem pull8_flagD (s : State) : s.pull8.2.flagD = s.flagD := read8_flagD (s.setSP (s.sp + 1)) _
@[simp] theorem pull8_flagI (s : State) : s.pull8.2.flagI = s.flagI := read8_flagI (s.setSP (s.sp + 1)) _
@[simp] theorem pull8_flagZ (s : State) : s.pull8.2.flagZ = s.flagZ := read8_flagZ (s.setSP (s.sp + 1)) _
@[simp] theorem pull8_flagC (s : State) : s.pull8.2.flagC = s.flagC := read8_flagC (s.setSP (s.sp + 1)) _
@[simp] theorem pull8_run (s : State) : s.pull8.2.run = s.run := read8_run (s.setSP (s.sp + 1)) _
@[simp] theorem pull8_nmiLine (s : State) : s.pull8.2.nmiLine = s.nmiLine := read8_nmiLine (s.setSP (s.sp + 1)) _
@[simp] theorem pull8_nmiLatch (s : State) : s.pull8.2.nmiLatch = s.nmiLatch := read8_nmiLatch (s.setSP (s.sp + 1)) _
@[simp] theorem pull8_irqLine (s : State) : s.pull8.2.irqLine = s.irqLine := read8_irqLine (s.setSP (s.sp + 1)) _
@[simp] theorem pull8_mem (s : State) : s.pull8.2.mem = s.mem := read8_mem (s.setSP (s.sp + 1)) _
@[simp] theorem pull8_uartOverrun (s : State) : s.pull8.2.uartOverrun = s.uartOverrun := read8_uartOverrun (s.setSP (s.sp + 1)) _
@[simp] theorem pull8_kbdMatrix (s : State) : s.pull8.2.kbdMatrix = s.kbdMatrix := read8_kbdMatrix (s.setSP (s.sp + 1)) _
@[simp] theorem pull8_kbdRowSel (s : State) : s.pull8.2.kbdRowSel = s.kbdRowSel := read8_kbdRowSel (s.setSP (s.sp + 1)) _
@[simp] theorem pull8_videoBuf (s : State) : s.pull8.2.videoBuf = s.videoBuf := read8_videoBuf (s.setSP (s.sp + 1)) _
@[simp] theorem pull8_videoGen (s : State) : s.pull8.2.videoGen = s.videoGen := read8_videoGen (s.setSP (s.sp + 1)) _
@[simp] theorem pull8_videoSnapshot (s : State) : s.pull8.2.videoSnapshot = s.videoSnapshot := read8_videoSnapshot (s.setSP (s.sp + 1)) _
@[simp] theorem pull8_frameCycles (s : State) : s.pull8.2.frameCycles = s.frameCycles := read8_frameCycles (s.setSP (s.sp + 1)) _
@[simp] theorem pull8_bankSel (s : State) : s.pull8.2.bankSel = s.bankSel := read8_bankSel (s.setSP (s.sp + 1)) _
@[simp] theorem pull8_cycles (s : State) : s.pull8.2.cycles = s.cycles := read8_cycles (s.setSP (s.sp + 1)) _
@[simp] theorem pull8_freeCount (s : State) : s.pull8.2.freeCount = s.freeCount := read8_freeCount (s.setSP (s.sp + 1)) _

@[simp] theorem pull8_sp (s : State) : s.pull8.2.sp = s.sp + 1 := rfl
@[simp] theorem pull8_value (s : State) : s.pull8.1 = s.busValue (stackAddr (s.sp + 1)) := rfl

@[simp] theorem pull16_cfg (s : State) : s.pull16.2.cfg = s.cfg := (pull8_cfg s.pull8.2).trans (pull8_cfg s)
@[simp] theorem pull16_a (s : State) : s.pull16.2.a = s.a := (pull8_a s.pull8.2).trans (pull8_a s)
@[simp] theorem pull16_x (s : State) : s.pull16.2.x = s.x := (pull8_x s.pull8.2).trans (pull8_x s)
@[simp] theorem pull16_y (s : State) : s.pull16.2.y = s.y := (pull8_y s.pull8.2).trans (pull8_y s)
@[simp] theorem pull16_pc (s : State) : s.pull16.2.pc = s.pc := (pull8_pc s.pull8.2).trans (pull8_pc s)
@[simp] theorem pull16_flagN (s : State) : s.pull16.2.flagN = s.flagN := (pull8_flagN s.pull8.2).trans (pull8_flagN s)
@[simp] theorem pull16_flagV (s : State) : s.pull16.2.flagV = s.flagV := (pull8_flagV s.pull8.2).trans (pull8_flagV s)
@[simp] theorem pull16_flagD (s : State) : s.pull16.2.flagD = s.flagD := (pull8_flagD s.pull8.2).trans (pull8_flagD s)
@[simp] theorem pull16_flagI (s : State) : s.pull16.2.flagI = s.flagI := (pull8_flagI s.pull8.2).trans (pull8_flagI s)
@[simp] theorem pull16_flagZ (s : State) : s.pull16.2.flagZ = s.flagZ := (pull8_flagZ s.pull8.2).trans (pull8_flagZ s)
@[simp] theorem pull16_flagC (s : State) : s.pull16.2.flagC = s.flagC := (pull8_flagC s.pull8.2).trans (pull8_flagC s)
@[simp] theorem pull16_run (s : State) : s.pull16.2.run = s.run := (pull8_run s.pull8.2).trans (pull8_run s)
@[simp] theorem pull16_nmiLine (s : State) : s.pull16.2.nmiLine = s.nmiLine := (pull8_nmiLine s.pull8.2).trans (pull8_nmiLine s)
@[simp] theorem pull16_nmiLatch (s : State) : s.pull16.2.nmiLatch = s.nmiLatch := (pull8_nmiLatch s.pull8.2).trans (pull8_nmiLatch s)
@[simp] theorem pull16_irqLine (s : State) : s.pull16.2.irqLine = s.irqLine := (pull8_irqLine s.pull8.2).trans (pull8_irqLine s)
@[simp] theorem pull16_mem (s : State) : s.pull16.2.mem = s.mem := (pull8_mem s.pull8.2).trans (pull8_mem s)
@[simp] theorem pull16_uartOverrun (s : State) : s.pull16.2.uartOverrun = s.uartOverrun := (pull8_uartOverrun s.pull8.2).trans (pull8_uartOverrun s)
@[simp] theorem pull16_kbdMatrix (s : State) : s.pull16.2.kbdMatrix = s.kbdMatrix := (pull8_kbdMatrix s.pull8.2).trans (pull8_kbdMatrix s)
@[simp] theorem pull16_kbdRowSel (s : State) : s.pull16.2.kbdRowSel = s.kbdRowSel := (pull8_kbdRowSel s.pull8.2).trans (pull8_kbdRowSel s)
@[simp] theorem pull16_videoBuf (s : State) : s.pull16.2.videoBuf = s.videoBuf := (pull8_videoBuf s.pull8.2).trans (pull8_videoBuf s)
@[simp] theorem pull16_videoGen (s : State) : s.pull16.2.videoGen = s.videoGen := (pull8_videoGen s.pull8.2).trans (pull8_videoGen s)
@[simp] theorem pull16_videoSnapshot (s : State) : s.pull16.2.videoSnapshot = s.videoSnapshot := (pull8_videoSnapshot s.pull8.2).trans (pull8_videoSnapshot s)
@[simp] theorem pull16_frameCycles (s : State) : s.pull16.2.frameCycles = s.frameCycles := (pull8_frameCycles s.pull8.2).trans (pull8_frameCycles s)
@[simp] theorem pull16_bankSel (s : State) : s.pull16.2.bankSel = s.bankSel := (pull8_bankSel s.pull8.2).trans (pull8_bankSel s)
@[simp] theorem pull16_cycles (s : State) : s.pull16.2.cycles = s.cycles := (pull8_cycles s.pull8.2).trans (pull8_cycles s)
@[simp] theorem pull16_freeCount (s : State) : s.pull16.2.freeCount = s.freeCount := (pull8_freeCount s.pull8.2).trans (pull8_freeCount s)

@[simp] theorem pull16_sp (s : State) : s.pull16.2.sp = s.sp + 1 + 1 := rfl

/-! Reading a word, and vectors (R11, R356). -/

@[simp] theorem read16_cfg (s : State) (a : Word) : (s.read16 a).2.cfg = s.cfg := (read8_cfg (s.read8 a).2 _).trans (read8_cfg s a)
@[simp] theorem read16_a (s : State) (a : Word) : (s.read16 a).2.a = s.a := (read8_a (s.read8 a).2 _).trans (read8_a s a)
@[simp] theorem read16_x (s : State) (a : Word) : (s.read16 a).2.x = s.x := (read8_x (s.read8 a).2 _).trans (read8_x s a)
@[simp] theorem read16_y (s : State) (a : Word) : (s.read16 a).2.y = s.y := (read8_y (s.read8 a).2 _).trans (read8_y s a)
@[simp] theorem read16_sp (s : State) (a : Word) : (s.read16 a).2.sp = s.sp := (read8_sp (s.read8 a).2 _).trans (read8_sp s a)
@[simp] theorem read16_pc (s : State) (a : Word) : (s.read16 a).2.pc = s.pc := (read8_pc (s.read8 a).2 _).trans (read8_pc s a)
@[simp] theorem read16_flagN (s : State) (a : Word) : (s.read16 a).2.flagN = s.flagN := (read8_flagN (s.read8 a).2 _).trans (read8_flagN s a)
@[simp] theorem read16_flagV (s : State) (a : Word) : (s.read16 a).2.flagV = s.flagV := (read8_flagV (s.read8 a).2 _).trans (read8_flagV s a)
@[simp] theorem read16_flagD (s : State) (a : Word) : (s.read16 a).2.flagD = s.flagD := (read8_flagD (s.read8 a).2 _).trans (read8_flagD s a)
@[simp] theorem read16_flagI (s : State) (a : Word) : (s.read16 a).2.flagI = s.flagI := (read8_flagI (s.read8 a).2 _).trans (read8_flagI s a)
@[simp] theorem read16_flagZ (s : State) (a : Word) : (s.read16 a).2.flagZ = s.flagZ := (read8_flagZ (s.read8 a).2 _).trans (read8_flagZ s a)
@[simp] theorem read16_flagC (s : State) (a : Word) : (s.read16 a).2.flagC = s.flagC := (read8_flagC (s.read8 a).2 _).trans (read8_flagC s a)
@[simp] theorem read16_run (s : State) (a : Word) : (s.read16 a).2.run = s.run := (read8_run (s.read8 a).2 _).trans (read8_run s a)
@[simp] theorem read16_nmiLine (s : State) (a : Word) : (s.read16 a).2.nmiLine = s.nmiLine := (read8_nmiLine (s.read8 a).2 _).trans (read8_nmiLine s a)
@[simp] theorem read16_nmiLatch (s : State) (a : Word) : (s.read16 a).2.nmiLatch = s.nmiLatch := (read8_nmiLatch (s.read8 a).2 _).trans (read8_nmiLatch s a)
@[simp] theorem read16_irqLine (s : State) (a : Word) : (s.read16 a).2.irqLine = s.irqLine := (read8_irqLine (s.read8 a).2 _).trans (read8_irqLine s a)
@[simp] theorem read16_mem (s : State) (a : Word) : (s.read16 a).2.mem = s.mem := (read8_mem (s.read8 a).2 _).trans (read8_mem s a)
@[simp] theorem read16_uartOverrun (s : State) (a : Word) : (s.read16 a).2.uartOverrun = s.uartOverrun := (read8_uartOverrun (s.read8 a).2 _).trans (read8_uartOverrun s a)
@[simp] theorem read16_kbdMatrix (s : State) (a : Word) : (s.read16 a).2.kbdMatrix = s.kbdMatrix := (read8_kbdMatrix (s.read8 a).2 _).trans (read8_kbdMatrix s a)
@[simp] theorem read16_kbdRowSel (s : State) (a : Word) : (s.read16 a).2.kbdRowSel = s.kbdRowSel := (read8_kbdRowSel (s.read8 a).2 _).trans (read8_kbdRowSel s a)
@[simp] theorem read16_videoBuf (s : State) (a : Word) : (s.read16 a).2.videoBuf = s.videoBuf := (read8_videoBuf (s.read8 a).2 _).trans (read8_videoBuf s a)
@[simp] theorem read16_videoGen (s : State) (a : Word) : (s.read16 a).2.videoGen = s.videoGen := (read8_videoGen (s.read8 a).2 _).trans (read8_videoGen s a)
@[simp] theorem read16_videoSnapshot (s : State) (a : Word) : (s.read16 a).2.videoSnapshot = s.videoSnapshot := (read8_videoSnapshot (s.read8 a).2 _).trans (read8_videoSnapshot s a)
@[simp] theorem read16_frameCycles (s : State) (a : Word) : (s.read16 a).2.frameCycles = s.frameCycles := (read8_frameCycles (s.read8 a).2 _).trans (read8_frameCycles s a)
@[simp] theorem read16_bankSel (s : State) (a : Word) : (s.read16 a).2.bankSel = s.bankSel := (read8_bankSel (s.read8 a).2 _).trans (read8_bankSel s a)
@[simp] theorem read16_cycles (s : State) (a : Word) : (s.read16 a).2.cycles = s.cycles := (read8_cycles (s.read8 a).2 _).trans (read8_cycles s a)
@[simp] theorem read16_freeCount (s : State) (a : Word) : (s.read16 a).2.freeCount = s.freeCount := (read8_freeCount (s.read8 a).2 _).trans (read8_freeCount s a)

@[simp] theorem read16zp_cfg (s : State) (z : Byte) : (s.read16zp z).2.cfg = s.cfg := (read8_cfg (s.read8 _).2 _).trans (read8_cfg s _)
@[simp] theorem read16zp_a (s : State) (z : Byte) : (s.read16zp z).2.a = s.a := (read8_a (s.read8 _).2 _).trans (read8_a s _)
@[simp] theorem read16zp_x (s : State) (z : Byte) : (s.read16zp z).2.x = s.x := (read8_x (s.read8 _).2 _).trans (read8_x s _)
@[simp] theorem read16zp_y (s : State) (z : Byte) : (s.read16zp z).2.y = s.y := (read8_y (s.read8 _).2 _).trans (read8_y s _)
@[simp] theorem read16zp_sp (s : State) (z : Byte) : (s.read16zp z).2.sp = s.sp := (read8_sp (s.read8 _).2 _).trans (read8_sp s _)
@[simp] theorem read16zp_pc (s : State) (z : Byte) : (s.read16zp z).2.pc = s.pc := (read8_pc (s.read8 _).2 _).trans (read8_pc s _)
@[simp] theorem read16zp_flagN (s : State) (z : Byte) : (s.read16zp z).2.flagN = s.flagN := (read8_flagN (s.read8 _).2 _).trans (read8_flagN s _)
@[simp] theorem read16zp_flagV (s : State) (z : Byte) : (s.read16zp z).2.flagV = s.flagV := (read8_flagV (s.read8 _).2 _).trans (read8_flagV s _)
@[simp] theorem read16zp_flagD (s : State) (z : Byte) : (s.read16zp z).2.flagD = s.flagD := (read8_flagD (s.read8 _).2 _).trans (read8_flagD s _)
@[simp] theorem read16zp_flagI (s : State) (z : Byte) : (s.read16zp z).2.flagI = s.flagI := (read8_flagI (s.read8 _).2 _).trans (read8_flagI s _)
@[simp] theorem read16zp_flagZ (s : State) (z : Byte) : (s.read16zp z).2.flagZ = s.flagZ := (read8_flagZ (s.read8 _).2 _).trans (read8_flagZ s _)
@[simp] theorem read16zp_flagC (s : State) (z : Byte) : (s.read16zp z).2.flagC = s.flagC := (read8_flagC (s.read8 _).2 _).trans (read8_flagC s _)
@[simp] theorem read16zp_run (s : State) (z : Byte) : (s.read16zp z).2.run = s.run := (read8_run (s.read8 _).2 _).trans (read8_run s _)
@[simp] theorem read16zp_nmiLine (s : State) (z : Byte) : (s.read16zp z).2.nmiLine = s.nmiLine := (read8_nmiLine (s.read8 _).2 _).trans (read8_nmiLine s _)
@[simp] theorem read16zp_nmiLatch (s : State) (z : Byte) : (s.read16zp z).2.nmiLatch = s.nmiLatch := (read8_nmiLatch (s.read8 _).2 _).trans (read8_nmiLatch s _)
@[simp] theorem read16zp_irqLine (s : State) (z : Byte) : (s.read16zp z).2.irqLine = s.irqLine := (read8_irqLine (s.read8 _).2 _).trans (read8_irqLine s _)
@[simp] theorem read16zp_mem (s : State) (z : Byte) : (s.read16zp z).2.mem = s.mem := (read8_mem (s.read8 _).2 _).trans (read8_mem s _)
@[simp] theorem read16zp_uartOverrun (s : State) (z : Byte) : (s.read16zp z).2.uartOverrun = s.uartOverrun := (read8_uartOverrun (s.read8 _).2 _).trans (read8_uartOverrun s _)
@[simp] theorem read16zp_kbdMatrix (s : State) (z : Byte) : (s.read16zp z).2.kbdMatrix = s.kbdMatrix := (read8_kbdMatrix (s.read8 _).2 _).trans (read8_kbdMatrix s _)
@[simp] theorem read16zp_kbdRowSel (s : State) (z : Byte) : (s.read16zp z).2.kbdRowSel = s.kbdRowSel := (read8_kbdRowSel (s.read8 _).2 _).trans (read8_kbdRowSel s _)
@[simp] theorem read16zp_videoBuf (s : State) (z : Byte) : (s.read16zp z).2.videoBuf = s.videoBuf := (read8_videoBuf (s.read8 _).2 _).trans (read8_videoBuf s _)
@[simp] theorem read16zp_videoGen (s : State) (z : Byte) : (s.read16zp z).2.videoGen = s.videoGen := (read8_videoGen (s.read8 _).2 _).trans (read8_videoGen s _)
@[simp] theorem read16zp_videoSnapshot (s : State) (z : Byte) : (s.read16zp z).2.videoSnapshot = s.videoSnapshot := (read8_videoSnapshot (s.read8 _).2 _).trans (read8_videoSnapshot s _)
@[simp] theorem read16zp_frameCycles (s : State) (z : Byte) : (s.read16zp z).2.frameCycles = s.frameCycles := (read8_frameCycles (s.read8 _).2 _).trans (read8_frameCycles s _)
@[simp] theorem read16zp_bankSel (s : State) (z : Byte) : (s.read16zp z).2.bankSel = s.bankSel := (read8_bankSel (s.read8 _).2 _).trans (read8_bankSel s _)
@[simp] theorem read16zp_cycles (s : State) (z : Byte) : (s.read16zp z).2.cycles = s.cycles := (read8_cycles (s.read8 _).2 _).trans (read8_cycles s _)
@[simp] theorem read16zp_freeCount (s : State) (z : Byte) : (s.read16zp z).2.freeCount = s.freeCount := (read8_freeCount (s.read8 _).2 _).trans (read8_freeCount s _)

@[simp] theorem loadVector_cfg (s : State) (k : VectorKind) : (s.loadVector k).cfg = s.cfg := by
  unfold State.loadVector; split <;> simp only [setPC_cfg, read16_cfg]
@[simp] theorem loadVector_a (s : State) (k : VectorKind) : (s.loadVector k).a = s.a := by
  unfold State.loadVector; split <;> simp only [setPC_a, read16_a]
@[simp] theorem loadVector_x (s : State) (k : VectorKind) : (s.loadVector k).x = s.x := by
  unfold State.loadVector; split <;> simp only [setPC_x, read16_x]
@[simp] theorem loadVector_y (s : State) (k : VectorKind) : (s.loadVector k).y = s.y := by
  unfold State.loadVector; split <;> simp only [setPC_y, read16_y]
@[simp] theorem loadVector_sp (s : State) (k : VectorKind) : (s.loadVector k).sp = s.sp := by
  unfold State.loadVector; split <;> simp only [setPC_sp, read16_sp]
@[simp] theorem loadVector_flagN (s : State) (k : VectorKind) : (s.loadVector k).flagN = s.flagN := by
  unfold State.loadVector; split <;> simp only [setPC_flagN, read16_flagN]
@[simp] theorem loadVector_flagV (s : State) (k : VectorKind) : (s.loadVector k).flagV = s.flagV := by
  unfold State.loadVector; split <;> simp only [setPC_flagV, read16_flagV]
@[simp] theorem loadVector_flagD (s : State) (k : VectorKind) : (s.loadVector k).flagD = s.flagD := by
  unfold State.loadVector; split <;> simp only [setPC_flagD, read16_flagD]
@[simp] theorem loadVector_flagI (s : State) (k : VectorKind) : (s.loadVector k).flagI = s.flagI := by
  unfold State.loadVector; split <;> simp only [setPC_flagI, read16_flagI]
@[simp] theorem loadVector_flagZ (s : State) (k : VectorKind) : (s.loadVector k).flagZ = s.flagZ := by
  unfold State.loadVector; split <;> simp only [setPC_flagZ, read16_flagZ]
@[simp] theorem loadVector_flagC (s : State) (k : VectorKind) : (s.loadVector k).flagC = s.flagC := by
  unfold State.loadVector; split <;> simp only [setPC_flagC, read16_flagC]
@[simp] theorem loadVector_run (s : State) (k : VectorKind) : (s.loadVector k).run = s.run := by
  unfold State.loadVector; split <;> simp only [setPC_run, read16_run]
@[simp] theorem loadVector_nmiLine (s : State) (k : VectorKind) : (s.loadVector k).nmiLine = s.nmiLine := by
  unfold State.loadVector; split <;> simp only [setPC_nmiLine, read16_nmiLine]
@[simp] theorem loadVector_nmiLatch (s : State) (k : VectorKind) : (s.loadVector k).nmiLatch = s.nmiLatch := by
  unfold State.loadVector; split <;> simp only [setPC_nmiLatch, read16_nmiLatch]
@[simp] theorem loadVector_irqLine (s : State) (k : VectorKind) : (s.loadVector k).irqLine = s.irqLine := by
  unfold State.loadVector; split <;> simp only [setPC_irqLine, read16_irqLine]
@[simp] theorem loadVector_mem (s : State) (k : VectorKind) : (s.loadVector k).mem = s.mem := by
  unfold State.loadVector; split <;> simp only [setPC_mem, read16_mem]
@[simp] theorem loadVector_uartOverrun (s : State) (k : VectorKind) : (s.loadVector k).uartOverrun = s.uartOverrun := by
  unfold State.loadVector; split <;> simp only [setPC_uartOverrun, read16_uartOverrun]
@[simp] theorem loadVector_kbdMatrix (s : State) (k : VectorKind) : (s.loadVector k).kbdMatrix = s.kbdMatrix := by
  unfold State.loadVector; split <;> simp only [setPC_kbdMatrix, read16_kbdMatrix]
@[simp] theorem loadVector_kbdRowSel (s : State) (k : VectorKind) : (s.loadVector k).kbdRowSel = s.kbdRowSel := by
  unfold State.loadVector; split <;> simp only [setPC_kbdRowSel, read16_kbdRowSel]
@[simp] theorem loadVector_videoBuf (s : State) (k : VectorKind) : (s.loadVector k).videoBuf = s.videoBuf := by
  unfold State.loadVector; split <;> simp only [setPC_videoBuf, read16_videoBuf]
@[simp] theorem loadVector_videoGen (s : State) (k : VectorKind) : (s.loadVector k).videoGen = s.videoGen := by
  unfold State.loadVector; split <;> simp only [setPC_videoGen, read16_videoGen]
@[simp] theorem loadVector_videoSnapshot (s : State) (k : VectorKind) : (s.loadVector k).videoSnapshot = s.videoSnapshot := by
  unfold State.loadVector; split <;> simp only [setPC_videoSnapshot, read16_videoSnapshot]
@[simp] theorem loadVector_frameCycles (s : State) (k : VectorKind) : (s.loadVector k).frameCycles = s.frameCycles := by
  unfold State.loadVector; split <;> simp only [setPC_frameCycles, read16_frameCycles]
@[simp] theorem loadVector_bankSel (s : State) (k : VectorKind) : (s.loadVector k).bankSel = s.bankSel := by
  unfold State.loadVector; split <;> simp only [setPC_bankSel, read16_bankSel]
@[simp] theorem loadVector_cycles (s : State) (k : VectorKind) : (s.loadVector k).cycles = s.cycles := by
  unfold State.loadVector; split <;> simp only [setPC_cycles, read16_cycles]
@[simp] theorem loadVector_freeCount (s : State) (k : VectorKind) : (s.loadVector k).freeCount = s.freeCount := by
  unfold State.loadVector; split <;> simp only [setPC_freeCount, read16_freeCount]


/-- An override is the vector, with no Bus read (R356). -/
theorem loadVector_override (s : State) (k : VectorKind) (w : Word) (h : k.override s.cfg = some w) :
    s.loadVector k = s.setPC w := by unfold State.loadVector; rw [h]

/-- Without an override the vector is the word at its address (R356). -/
theorem loadVector_read (s : State) (k : VectorKind) (h : k.override s.cfg = none) :
    s.loadVector k = (s.read16 k.addr).2.setPC (s.read16 k.addr).1 := by unfold State.loadVector; rw [h]

/-! Taking an exception (R355): pushes, I, D and PC. -/

@[simp] theorem enterVector_cfg (s : State) (k : VectorKind) (b : Bool) : (s.enterVector k b).cfg = s.cfg := by
  simp only [State.enterVector, loadVector_cfg, setD_cfg, setI_cfg, push8_cfg, push16_cfg]
@[simp] theorem enterVector_a (s : State) (k : VectorKind) (b : Bool) : (s.enterVector k b).a = s.a := by
  simp only [State.enterVector, loadVector_a, setD_a, setI_a, push8_a, push16_a]
@[simp] theorem enterVector_x (s : State) (k : VectorKind) (b : Bool) : (s.enterVector k b).x = s.x := by
  simp only [State.enterVector, loadVector_x, setD_x, setI_x, push8_x, push16_x]
@[simp] theorem enterVector_y (s : State) (k : VectorKind) (b : Bool) : (s.enterVector k b).y = s.y := by
  simp only [State.enterVector, loadVector_y, setD_y, setI_y, push8_y, push16_y]
@[simp] theorem enterVector_flagN (s : State) (k : VectorKind) (b : Bool) : (s.enterVector k b).flagN = s.flagN := by
  simp only [State.enterVector, loadVector_flagN, setD_flagN, setI_flagN, push8_flagN, push16_flagN]
@[simp] theorem enterVector_flagV (s : State) (k : VectorKind) (b : Bool) : (s.enterVector k b).flagV = s.flagV := by
  simp only [State.enterVector, loadVector_flagV, setD_flagV, setI_flagV, push8_flagV, push16_flagV]
@[simp] theorem enterVector_flagZ (s : State) (k : VectorKind) (b : Bool) : (s.enterVector k b).flagZ = s.flagZ := by
  simp only [State.enterVector, loadVector_flagZ, setD_flagZ, setI_flagZ, push8_flagZ, push16_flagZ]
@[simp] theorem enterVector_flagC (s : State) (k : VectorKind) (b : Bool) : (s.enterVector k b).flagC = s.flagC := by
  simp only [State.enterVector, loadVector_flagC, setD_flagC, setI_flagC, push8_flagC, push16_flagC]
@[simp] theorem enterVector_run (s : State) (k : VectorKind) (b : Bool) : (s.enterVector k b).run = s.run := by
  simp only [State.enterVector, loadVector_run, setD_run, setI_run, push8_run, push16_run]
@[simp] theorem enterVector_nmiLine (s : State) (k : VectorKind) (b : Bool) : (s.enterVector k b).nmiLine = s.nmiLine := by
  simp only [State.enterVector, loadVector_nmiLine, setD_nmiLine, setI_nmiLine, push8_nmiLine, push16_nmiLine]
@[simp] theorem enterVector_nmiLatch (s : State) (k : VectorKind) (b : Bool) : (s.enterVector k b).nmiLatch = s.nmiLatch := by
  simp only [State.enterVector, loadVector_nmiLatch, setD_nmiLatch, setI_nmiLatch, push8_nmiLatch, push16_nmiLatch]
@[simp] theorem enterVector_irqLine (s : State) (k : VectorKind) (b : Bool) : (s.enterVector k b).irqLine = s.irqLine := by
  simp only [State.enterVector, loadVector_irqLine, setD_irqLine, setI_irqLine, push8_irqLine, push16_irqLine]
@[simp] theorem enterVector_uartOverrun (s : State) (k : VectorKind) (b : Bool) : (s.enterVector k b).uartOverrun = s.uartOverrun := by
  simp only [State.enterVector, loadVector_uartOverrun, setD_uartOverrun, setI_uartOverrun, push8_uartOverrun, push16_uartOverrun]
@[simp] theorem enterVector_kbdMatrix (s : State) (k : VectorKind) (b : Bool) : (s.enterVector k b).kbdMatrix = s.kbdMatrix := by
  simp only [State.enterVector, loadVector_kbdMatrix, setD_kbdMatrix, setI_kbdMatrix, push8_kbdMatrix, push16_kbdMatrix]
@[simp] theorem enterVector_videoGen (s : State) (k : VectorKind) (b : Bool) : (s.enterVector k b).videoGen = s.videoGen := by
  simp only [State.enterVector, loadVector_videoGen, setD_videoGen, setI_videoGen, push8_videoGen, push16_videoGen]
@[simp] theorem enterVector_videoSnapshot (s : State) (k : VectorKind) (b : Bool) : (s.enterVector k b).videoSnapshot = s.videoSnapshot := by
  simp only [State.enterVector, loadVector_videoSnapshot, setD_videoSnapshot, setI_videoSnapshot, push8_videoSnapshot, push16_videoSnapshot]
@[simp] theorem enterVector_frameCycles (s : State) (k : VectorKind) (b : Bool) : (s.enterVector k b).frameCycles = s.frameCycles := by
  simp only [State.enterVector, loadVector_frameCycles, setD_frameCycles, setI_frameCycles, push8_frameCycles, push16_frameCycles]
@[simp] theorem enterVector_cycles (s : State) (k : VectorKind) (b : Bool) : (s.enterVector k b).cycles = s.cycles := by
  simp only [State.enterVector, loadVector_cycles, setD_cycles, setI_cycles, push8_cycles, push16_cycles]
@[simp] theorem enterVector_freeCount (s : State) (k : VectorKind) (b : Bool) : (s.enterVector k b).freeCount = s.freeCount := by
  simp only [State.enterVector, loadVector_freeCount, setD_freeCount, setI_freeCount, push8_freeCount, push16_freeCount]

@[simp] theorem enterVector_flagI (s : State) (k : VectorKind) (b : Bool) : (s.enterVector k b).flagI = true := by
  simp [State.enterVector]
@[simp] theorem enterVector_flagD (s : State) (k : VectorKind) (b : Bool) : (s.enterVector k b).flagD = false := by
  simp [State.enterVector]
@[simp] theorem enterVector_sp (s : State) (k : VectorKind) (b : Bool) : (s.enterVector k b).sp = s.sp - 1 - 1 - 1 := by
  simp [State.enterVector]

/-! Resolving a mode (R130 to R143): PC, and the UART queue. -/

@[simp] theorem resolve_cfg (m : Mode) (s : State) : (resolve m s).2.cfg = s.cfg := by
  cases m <;> simp only [resolve, operandFetch_cfg, read16_cfg, read16zp_cfg]
@[simp] theorem resolve_a (m : Mode) (s : State) : (resolve m s).2.a = s.a := by
  cases m <;> simp only [resolve, operandFetch_a, read16_a, read16zp_a]
@[simp] theorem resolve_x (m : Mode) (s : State) : (resolve m s).2.x = s.x := by
  cases m <;> simp only [resolve, operandFetch_x, read16_x, read16zp_x]
@[simp] theorem resolve_y (m : Mode) (s : State) : (resolve m s).2.y = s.y := by
  cases m <;> simp only [resolve, operandFetch_y, read16_y, read16zp_y]
@[simp] theorem resolve_sp (m : Mode) (s : State) : (resolve m s).2.sp = s.sp := by
  cases m <;> simp only [resolve, operandFetch_sp, read16_sp, read16zp_sp]
@[simp] theorem resolve_flagN (m : Mode) (s : State) : (resolve m s).2.flagN = s.flagN := by
  cases m <;> simp only [resolve, operandFetch_flagN, read16_flagN, read16zp_flagN]
@[simp] theorem resolve_flagV (m : Mode) (s : State) : (resolve m s).2.flagV = s.flagV := by
  cases m <;> simp only [resolve, operandFetch_flagV, read16_flagV, read16zp_flagV]
@[simp] theorem resolve_flagD (m : Mode) (s : State) : (resolve m s).2.flagD = s.flagD := by
  cases m <;> simp only [resolve, operandFetch_flagD, read16_flagD, read16zp_flagD]
@[simp] theorem resolve_flagI (m : Mode) (s : State) : (resolve m s).2.flagI = s.flagI := by
  cases m <;> simp only [resolve, operandFetch_flagI, read16_flagI, read16zp_flagI]
@[simp] theorem resolve_flagZ (m : Mode) (s : State) : (resolve m s).2.flagZ = s.flagZ := by
  cases m <;> simp only [resolve, operandFetch_flagZ, read16_flagZ, read16zp_flagZ]
@[simp] theorem resolve_flagC (m : Mode) (s : State) : (resolve m s).2.flagC = s.flagC := by
  cases m <;> simp only [resolve, operandFetch_flagC, read16_flagC, read16zp_flagC]
@[simp] theorem resolve_run (m : Mode) (s : State) : (resolve m s).2.run = s.run := by
  cases m <;> simp only [resolve, operandFetch_run, read16_run, read16zp_run]
@[simp] theorem resolve_nmiLine (m : Mode) (s : State) : (resolve m s).2.nmiLine = s.nmiLine := by
  cases m <;> simp only [resolve, operandFetch_nmiLine, read16_nmiLine, read16zp_nmiLine]
@[simp] theorem resolve_nmiLatch (m : Mode) (s : State) : (resolve m s).2.nmiLatch = s.nmiLatch := by
  cases m <;> simp only [resolve, operandFetch_nmiLatch, read16_nmiLatch, read16zp_nmiLatch]
@[simp] theorem resolve_irqLine (m : Mode) (s : State) : (resolve m s).2.irqLine = s.irqLine := by
  cases m <;> simp only [resolve, operandFetch_irqLine, read16_irqLine, read16zp_irqLine]
@[simp] theorem resolve_mem (m : Mode) (s : State) : (resolve m s).2.mem = s.mem := by
  cases m <;> simp only [resolve, operandFetch_mem, read16_mem, read16zp_mem]
@[simp] theorem resolve_uartOverrun (m : Mode) (s : State) : (resolve m s).2.uartOverrun = s.uartOverrun := by
  cases m <;> simp only [resolve, operandFetch_uartOverrun, read16_uartOverrun, read16zp_uartOverrun]
@[simp] theorem resolve_kbdMatrix (m : Mode) (s : State) : (resolve m s).2.kbdMatrix = s.kbdMatrix := by
  cases m <;> simp only [resolve, operandFetch_kbdMatrix, read16_kbdMatrix, read16zp_kbdMatrix]
@[simp] theorem resolve_kbdRowSel (m : Mode) (s : State) : (resolve m s).2.kbdRowSel = s.kbdRowSel := by
  cases m <;> simp only [resolve, operandFetch_kbdRowSel, read16_kbdRowSel, read16zp_kbdRowSel]
@[simp] theorem resolve_videoBuf (m : Mode) (s : State) : (resolve m s).2.videoBuf = s.videoBuf := by
  cases m <;> simp only [resolve, operandFetch_videoBuf, read16_videoBuf, read16zp_videoBuf]
@[simp] theorem resolve_videoGen (m : Mode) (s : State) : (resolve m s).2.videoGen = s.videoGen := by
  cases m <;> simp only [resolve, operandFetch_videoGen, read16_videoGen, read16zp_videoGen]
@[simp] theorem resolve_videoSnapshot (m : Mode) (s : State) : (resolve m s).2.videoSnapshot = s.videoSnapshot := by
  cases m <;> simp only [resolve, operandFetch_videoSnapshot, read16_videoSnapshot, read16zp_videoSnapshot]
@[simp] theorem resolve_frameCycles (m : Mode) (s : State) : (resolve m s).2.frameCycles = s.frameCycles := by
  cases m <;> simp only [resolve, operandFetch_frameCycles, read16_frameCycles, read16zp_frameCycles]
@[simp] theorem resolve_bankSel (m : Mode) (s : State) : (resolve m s).2.bankSel = s.bankSel := by
  cases m <;> simp only [resolve, operandFetch_bankSel, read16_bankSel, read16zp_bankSel]
@[simp] theorem resolve_cycles (m : Mode) (s : State) : (resolve m s).2.cycles = s.cycles := by
  cases m <;> simp only [resolve, operandFetch_cycles, read16_cycles, read16zp_cycles]
@[simp] theorem resolve_freeCount (m : Mode) (s : State) : (resolve m s).2.freeCount = s.freeCount := by
  cases m <;> simp only [resolve, operandFetch_freeCount, read16_freeCount, read16zp_freeCount]

/-- ReadM returns a value and changes the UART queue at most (R147). -/
theorem readM_spec (o : Operand) (s : State) :
    (readM o s).2 = { s with uartQueue := (readM o s).2.uartQueue } := by
  unfold readM; split <;> rfl

@[simp] theorem readM_cfg (o : Operand) (s : State) : (readM o s).2.cfg = s.cfg := by rw [readM_spec]
@[simp] theorem readM_a (o : Operand) (s : State) : (readM o s).2.a = s.a := by rw [readM_spec]
@[simp] theorem readM_x (o : Operand) (s : State) : (readM o s).2.x = s.x := by rw [readM_spec]
@[simp] theorem readM_y (o : Operand) (s : State) : (readM o s).2.y = s.y := by rw [readM_spec]
@[simp] theorem readM_sp (o : Operand) (s : State) : (readM o s).2.sp = s.sp := by rw [readM_spec]
@[simp] theorem readM_pc (o : Operand) (s : State) : (readM o s).2.pc = s.pc := by rw [readM_spec]
@[simp] theorem readM_flagN (o : Operand) (s : State) : (readM o s).2.flagN = s.flagN := by rw [readM_spec]
@[simp] theorem readM_flagV (o : Operand) (s : State) : (readM o s).2.flagV = s.flagV := by rw [readM_spec]
@[simp] theorem readM_flagD (o : Operand) (s : State) : (readM o s).2.flagD = s.flagD := by rw [readM_spec]
@[simp] theorem readM_flagI (o : Operand) (s : State) : (readM o s).2.flagI = s.flagI := by rw [readM_spec]
@[simp] theorem readM_flagZ (o : Operand) (s : State) : (readM o s).2.flagZ = s.flagZ := by rw [readM_spec]
@[simp] theorem readM_flagC (o : Operand) (s : State) : (readM o s).2.flagC = s.flagC := by rw [readM_spec]
@[simp] theorem readM_run (o : Operand) (s : State) : (readM o s).2.run = s.run := by rw [readM_spec]
@[simp] theorem readM_nmiLine (o : Operand) (s : State) : (readM o s).2.nmiLine = s.nmiLine := by rw [readM_spec]
@[simp] theorem readM_nmiLatch (o : Operand) (s : State) : (readM o s).2.nmiLatch = s.nmiLatch := by rw [readM_spec]
@[simp] theorem readM_irqLine (o : Operand) (s : State) : (readM o s).2.irqLine = s.irqLine := by rw [readM_spec]
@[simp] theorem readM_mem (o : Operand) (s : State) : (readM o s).2.mem = s.mem := by rw [readM_spec]
@[simp] theorem readM_uartOverrun (o : Operand) (s : State) : (readM o s).2.uartOverrun = s.uartOverrun := by rw [readM_spec]
@[simp] theorem readM_kbdMatrix (o : Operand) (s : State) : (readM o s).2.kbdMatrix = s.kbdMatrix := by rw [readM_spec]
@[simp] theorem readM_kbdRowSel (o : Operand) (s : State) : (readM o s).2.kbdRowSel = s.kbdRowSel := by rw [readM_spec]
@[simp] theorem readM_videoBuf (o : Operand) (s : State) : (readM o s).2.videoBuf = s.videoBuf := by rw [readM_spec]
@[simp] theorem readM_videoGen (o : Operand) (s : State) : (readM o s).2.videoGen = s.videoGen := by rw [readM_spec]
@[simp] theorem readM_videoSnapshot (o : Operand) (s : State) : (readM o s).2.videoSnapshot = s.videoSnapshot := by rw [readM_spec]
@[simp] theorem readM_frameCycles (o : Operand) (s : State) : (readM o s).2.frameCycles = s.frameCycles := by rw [readM_spec]
@[simp] theorem readM_bankSel (o : Operand) (s : State) : (readM o s).2.bankSel = s.bankSel := by rw [readM_spec]
@[simp] theorem readM_cycles (o : Operand) (s : State) : (readM o s).2.cycles = s.cycles := by rw [readM_spec]
@[simp] theorem readM_freeCount (o : Operand) (s : State) : (readM o s).2.freeCount = s.freeCount := by rw [readM_spec]

/-- WriteM changes A, or one of the places a Bus write can store to (R147). -/
theorem writeM_cases (o : Operand) (v : Byte) (s : State) :
    (o.loc = .acc ∧ writeM o v s = s.setA v) ∨ (∃ w, o.loc = .imm w ∧ writeM o v s = s) ∨
      (∃ ea, o.loc = .mem ea ∧ writeM o v s = s.write8 ea v) := by
  unfold writeM
  split <;> rename_i h
  · exact .inl ⟨h, rfl⟩
  · exact .inr (.inl ⟨_, h, rfl⟩)
  · exact .inr (.inr ⟨_, h, rfl⟩)

@[simp] theorem writeM_cfg (o : Operand) (v : Byte) (s : State) : (writeM o v s).cfg = s.cfg := by
  unfold writeM; split <;> simp only [setA_cfg, write8_cfg]
@[simp] theorem writeM_x (o : Operand) (v : Byte) (s : State) : (writeM o v s).x = s.x := by
  unfold writeM; split <;> simp only [setA_x, write8_x]
@[simp] theorem writeM_y (o : Operand) (v : Byte) (s : State) : (writeM o v s).y = s.y := by
  unfold writeM; split <;> simp only [setA_y, write8_y]
@[simp] theorem writeM_sp (o : Operand) (v : Byte) (s : State) : (writeM o v s).sp = s.sp := by
  unfold writeM; split <;> simp only [setA_sp, write8_sp]
@[simp] theorem writeM_pc (o : Operand) (v : Byte) (s : State) : (writeM o v s).pc = s.pc := by
  unfold writeM; split <;> simp only [setA_pc, write8_pc]
@[simp] theorem writeM_flagN (o : Operand) (v : Byte) (s : State) : (writeM o v s).flagN = s.flagN := by
  unfold writeM; split <;> simp only [setA_flagN, write8_flagN]
@[simp] theorem writeM_flagV (o : Operand) (v : Byte) (s : State) : (writeM o v s).flagV = s.flagV := by
  unfold writeM; split <;> simp only [setA_flagV, write8_flagV]
@[simp] theorem writeM_flagD (o : Operand) (v : Byte) (s : State) : (writeM o v s).flagD = s.flagD := by
  unfold writeM; split <;> simp only [setA_flagD, write8_flagD]
@[simp] theorem writeM_flagI (o : Operand) (v : Byte) (s : State) : (writeM o v s).flagI = s.flagI := by
  unfold writeM; split <;> simp only [setA_flagI, write8_flagI]
@[simp] theorem writeM_flagZ (o : Operand) (v : Byte) (s : State) : (writeM o v s).flagZ = s.flagZ := by
  unfold writeM; split <;> simp only [setA_flagZ, write8_flagZ]
@[simp] theorem writeM_flagC (o : Operand) (v : Byte) (s : State) : (writeM o v s).flagC = s.flagC := by
  unfold writeM; split <;> simp only [setA_flagC, write8_flagC]
@[simp] theorem writeM_run (o : Operand) (v : Byte) (s : State) : (writeM o v s).run = s.run := by
  unfold writeM; split <;> simp only [setA_run, write8_run]
@[simp] theorem writeM_nmiLine (o : Operand) (v : Byte) (s : State) : (writeM o v s).nmiLine = s.nmiLine := by
  unfold writeM; split <;> simp only [setA_nmiLine, write8_nmiLine]
@[simp] theorem writeM_nmiLatch (o : Operand) (v : Byte) (s : State) : (writeM o v s).nmiLatch = s.nmiLatch := by
  unfold writeM; split <;> simp only [setA_nmiLatch, write8_nmiLatch]
@[simp] theorem writeM_irqLine (o : Operand) (v : Byte) (s : State) : (writeM o v s).irqLine = s.irqLine := by
  unfold writeM; split <;> simp only [setA_irqLine, write8_irqLine]
@[simp] theorem writeM_uartQueue (o : Operand) (v : Byte) (s : State) : (writeM o v s).uartQueue = s.uartQueue := by
  unfold writeM; split <;> simp only [setA_uartQueue, write8_uartQueue]
@[simp] theorem writeM_uartOverrun (o : Operand) (v : Byte) (s : State) : (writeM o v s).uartOverrun = s.uartOverrun := by
  unfold writeM; split <;> simp only [setA_uartOverrun, write8_uartOverrun]
@[simp] theorem writeM_kbdMatrix (o : Operand) (v : Byte) (s : State) : (writeM o v s).kbdMatrix = s.kbdMatrix := by
  unfold writeM; split <;> simp only [setA_kbdMatrix, write8_kbdMatrix]
@[simp] theorem writeM_videoGen (o : Operand) (v : Byte) (s : State) : (writeM o v s).videoGen = s.videoGen := by
  unfold writeM; split <;> simp only [setA_videoGen, write8_videoGen]
@[simp] theorem writeM_videoSnapshot (o : Operand) (v : Byte) (s : State) : (writeM o v s).videoSnapshot = s.videoSnapshot := by
  unfold writeM; split <;> simp only [setA_videoSnapshot, write8_videoSnapshot]
@[simp] theorem writeM_frameCycles (o : Operand) (v : Byte) (s : State) : (writeM o v s).frameCycles = s.frameCycles := by
  unfold writeM; split <;> simp only [setA_frameCycles, write8_frameCycles]
@[simp] theorem writeM_cycles (o : Operand) (v : Byte) (s : State) : (writeM o v s).cycles = s.cycles := by
  unfold writeM; split <;> simp only [setA_cycles, write8_cycles]
@[simp] theorem writeM_freeCount (o : Operand) (v : Byte) (s : State) : (writeM o v s).freeCount = s.freeCount := by
  unfold writeM; split <;> simp only [setA_freeCount, write8_freeCount]

/-! The frame tick (R78). -/

/-- The frame loop changes the frame machinery only. -/
theorem frameLoop_frame (n : Nat) (s : State) :
    State.frameLoop n s = { s with
      frameCycles := (State.frameLoop n s).frameCycles
      videoGen := (State.frameLoop n s).videoGen
      videoSnapshot := (State.frameLoop n s).videoSnapshot } := by
  induction n generalizing s with
  | zero => rfl
  | succ n ih =>
    unfold State.frameLoop
    split
    · rw [ih]
    · rfl

/-- The frame tick changes the frame machinery only (R435). -/
theorem frameTick_frame (s : State) (n : Nat) :
    s.frameTick n = { s with
      frameCycles := (s.frameTick n).frameCycles
      videoGen := (s.frameTick n).videoGen
      videoSnapshot := (s.frameTick n).videoSnapshot } := by
  unfold State.frameTick
  rw [frameLoop_frame]

@[simp] theorem frameTick_cfg (s : State) (n : Nat) : (s.frameTick n).cfg = s.cfg := by rw [frameTick_frame]
@[simp] theorem frameTick_a (s : State) (n : Nat) : (s.frameTick n).a = s.a := by rw [frameTick_frame]
@[simp] theorem frameTick_x (s : State) (n : Nat) : (s.frameTick n).x = s.x := by rw [frameTick_frame]
@[simp] theorem frameTick_y (s : State) (n : Nat) : (s.frameTick n).y = s.y := by rw [frameTick_frame]
@[simp] theorem frameTick_sp (s : State) (n : Nat) : (s.frameTick n).sp = s.sp := by rw [frameTick_frame]
@[simp] theorem frameTick_pc (s : State) (n : Nat) : (s.frameTick n).pc = s.pc := by rw [frameTick_frame]
@[simp] theorem frameTick_flagN (s : State) (n : Nat) : (s.frameTick n).flagN = s.flagN := by rw [frameTick_frame]
@[simp] theorem frameTick_flagV (s : State) (n : Nat) : (s.frameTick n).flagV = s.flagV := by rw [frameTick_frame]
@[simp] theorem frameTick_flagD (s : State) (n : Nat) : (s.frameTick n).flagD = s.flagD := by rw [frameTick_frame]
@[simp] theorem frameTick_flagI (s : State) (n : Nat) : (s.frameTick n).flagI = s.flagI := by rw [frameTick_frame]
@[simp] theorem frameTick_flagZ (s : State) (n : Nat) : (s.frameTick n).flagZ = s.flagZ := by rw [frameTick_frame]
@[simp] theorem frameTick_flagC (s : State) (n : Nat) : (s.frameTick n).flagC = s.flagC := by rw [frameTick_frame]
@[simp] theorem frameTick_run (s : State) (n : Nat) : (s.frameTick n).run = s.run := by rw [frameTick_frame]
@[simp] theorem frameTick_nmiLine (s : State) (n : Nat) : (s.frameTick n).nmiLine = s.nmiLine := by rw [frameTick_frame]
@[simp] theorem frameTick_nmiLatch (s : State) (n : Nat) : (s.frameTick n).nmiLatch = s.nmiLatch := by rw [frameTick_frame]
@[simp] theorem frameTick_irqLine (s : State) (n : Nat) : (s.frameTick n).irqLine = s.irqLine := by rw [frameTick_frame]
@[simp] theorem frameTick_mem (s : State) (n : Nat) : (s.frameTick n).mem = s.mem := by rw [frameTick_frame]
@[simp] theorem frameTick_uartQueue (s : State) (n : Nat) : (s.frameTick n).uartQueue = s.uartQueue := by rw [frameTick_frame]
@[simp] theorem frameTick_uartOverrun (s : State) (n : Nat) : (s.frameTick n).uartOverrun = s.uartOverrun := by rw [frameTick_frame]
@[simp] theorem frameTick_kbdMatrix (s : State) (n : Nat) : (s.frameTick n).kbdMatrix = s.kbdMatrix := by rw [frameTick_frame]
@[simp] theorem frameTick_kbdRowSel (s : State) (n : Nat) : (s.frameTick n).kbdRowSel = s.kbdRowSel := by rw [frameTick_frame]
@[simp] theorem frameTick_videoBuf (s : State) (n : Nat) : (s.frameTick n).videoBuf = s.videoBuf := by rw [frameTick_frame]
@[simp] theorem frameTick_bankSel (s : State) (n : Nat) : (s.frameTick n).bankSel = s.bankSel := by rw [frameTick_frame]
@[simp] theorem frameTick_cycles (s : State) (n : Nat) : (s.frameTick n).cycles = s.cycles := by rw [frameTick_frame]
@[simp] theorem frameTick_freeCount (s : State) (n : Nat) : (s.frameTick n).freeCount = s.freeCount := by rw [frameTick_frame]

end Sys2Proof.Laws
end

