-- ==== Sys2Proof/Laws/Families.lean ====
section
/-! SUPPORT. What the shared operations of ADC, SBC, the branches and RTI can do, said once. -/

namespace Sys2Proof.Laws

open Sys2Proof.Machine

/-- ADC draws free values, adds in decimal, or adds in binary (R202, R204). -/
theorem addOperand_cases (s : State) (m : Byte) :
    (s.drawsDecimal m = true ∧ s.addOperand m = s.setFreeDecimal) ∨
    (s.drawsDecimal m = false ∧ s.flagD = true ∧ s.addOperand m = s.setAlu (decAdd s.a m s.flagC)) ∨
    (s.drawsDecimal m = false ∧ s.flagD = false ∧ s.addOperand m = s.setAlu (binAdd s.a m s.flagC)) := by
  unfold State.addOperand
  cases s.drawsDecimal m <;> cases s.flagD <;> simp

/-- SBC draws free values, subtracts in decimal, or subtracts in binary (R206, R204). -/
theorem subOperand_cases (s : State) (m : Byte) :
    (s.drawsDecimal m = true ∧ s.subOperand m = s.setFreeDecimal) ∨
    (s.drawsDecimal m = false ∧ s.flagD = true ∧ s.subOperand m = s.setAlu (decSub s.a m s.flagC)) ∨
    (s.drawsDecimal m = false ∧ s.flagD = false ∧ s.subOperand m = s.setAlu (binSub s.a m s.flagC)) := by
  unfold State.subOperand
  cases s.drawsDecimal m <;> cases s.flagD <;> simp

/-- A draw needs D set and the parameter `draw` (R204). -/
theorem drawsDecimal_flagD (s : State) (m : Byte) (h : s.drawsDecimal m = true) : s.flagD = true := by
  unfold State.drawsDecimal at h
  cases hd : s.flagD
  · rw [hd] at h; cases h
  · rfl

/-- A branch changes PC and the cycle count only (R280, R432). -/
theorem branchIf_frame (s : State) (taken : Bool) (d : Byte) (base : Nat) :
    s.branchIf taken d base = { s with
      pc := if taken then s.pc + sext16 d else s.pc
      cycles := if taken then base + 1 + (if pageCrossed s.pc (s.pc + sext16 d) then 1 else 0) else base } := by
  cases taken <;> rfl

/-- RTI stores nothing (R297). -/
theorem returnFromInterrupt_mem (s : State) : s.returnFromInterrupt.mem = s.mem := by
  simp [State.returnFromInterrupt]

/-- RTI leaves the platform alone (R57). -/
@[simp] theorem returnFromInterrupt_cfg (s : State) : s.returnFromInterrupt.cfg = s.cfg := by
  simp [State.returnFromInterrupt]

end Sys2Proof.Laws
end

