-- ==== Sys2Proof/Laws/PerInstr.lean ====
section
/-! SUPPORT. The family EncodedLength: every instruction is well formed, and its encoding starts with its
opcode and has the length that the opcode fixes (R100, R101, R108). One lemma per constructor. -/

namespace Sys2Proof.Laws.EncodedLength

/-- The encoding of `i` is as long as its opcode says (R101), and one to three bytes (R100). -/
def Statement (i : Instr) : Prop :=
  i.wellFormed = true ∧ (encode i).length = opcodeLength (Machine.opcodeOf i) ∧
    1 ≤ (encode i).length ∧ (encode i).length ≤ 3

theorem of_opcode (i : Instr) (op : Byte) (n : Nat) (hop : Machine.opcodeOf i = op)
    (hlen : (encode i).length = n) (htab : opcodeLength op = n) (h₁ : 1 ≤ n) (h₃ : n ≤ 3) : Statement i :=
  ⟨rfl, by rw [hop, hlen, htab], by rw [hlen]; exact h₁, by rw [hlen]; exact h₃⟩

theorem brk (sig : Byte) : Statement (.brk sig) :=
  of_opcode _ 0x00 2 rfl rfl (by decide) (by decide) (by decide)
theorem oraZpXInd (z : Byte) : Statement (.oraZpXInd z) :=
  of_opcode _ 0x01 2 rfl rfl (by decide) (by decide) (by decide)
theorem nop02 (o : Byte) : Statement (.nop02 o) :=
  of_opcode _ 0x02 2 rfl rfl (by decide) (by decide) (by decide)
theorem nop03 : Statement .nop03 :=
  of_opcode _ 0x03 1 rfl rfl (by decide) (by decide) (by decide)
theorem tsbZp (z : Byte) : Statement (.tsbZp z) :=
  of_opcode _ 0x04 2 rfl rfl (by decide) (by decide) (by decide)
theorem oraZp (z : Byte) : Statement (.oraZp z) :=
  of_opcode _ 0x05 2 rfl rfl (by decide) (by decide) (by decide)
theorem aslZp (z : Byte) : Statement (.aslZp z) :=
  of_opcode _ 0x06 2 rfl rfl (by decide) (by decide) (by decide)
theorem rmb0 (z : Byte) : Statement (.rmb0 z) :=
  of_opcode _ 0x07 2 rfl rfl (by decide) (by decide) (by decide)
theorem php : Statement .php :=
  of_opcode _ 0x08 1 rfl rfl (by decide) (by decide) (by decide)
theorem oraImm (v : Byte) : Statement (.oraImm v) :=
  of_opcode _ 0x09 2 rfl rfl (by decide) (by decide) (by decide)
theorem aslAcc : Statement .aslAcc :=
  of_opcode _ 0x0A 1 rfl rfl (by decide) (by decide) (by decide)
theorem nop0B : Statement .nop0B :=
  of_opcode _ 0x0B 1 rfl rfl (by decide) (by decide) (by decide)
theorem tsbAbs (addr : Word) : Statement (.tsbAbs addr) :=
  of_opcode _ 0x0C 3 rfl rfl (by decide) (by decide) (by decide)
theorem oraAbs (addr : Word) : Statement (.oraAbs addr) :=
  of_opcode _ 0x0D 3 rfl rfl (by decide) (by decide) (by decide)
theorem aslAbs (addr : Word) : Statement (.aslAbs addr) :=
  of_opcode _ 0x0E 3 rfl rfl (by decide) (by decide) (by decide)
theorem bbr0 (z : Byte) (d : Byte) : Statement (.bbr0 z d) :=
  of_opcode _ 0x0F 3 rfl rfl (by decide) (by decide) (by decide)
theorem bpl (d : Byte) : Statement (.bpl d) :=
  of_opcode _ 0x10 2 rfl rfl (by decide) (by decide) (by decide)
theorem oraZpIndY (z : Byte) : Statement (.oraZpIndY z) :=
  of_opcode _ 0x11 2 rfl rfl (by decide) (by decide) (by decide)
theorem oraZpInd (z : Byte) : Statement (.oraZpInd z) :=
  of_opcode _ 0x12 2 rfl rfl (by decide) (by decide) (by decide)
theorem nop13 : Statement .nop13 :=
  of_opcode _ 0x13 1 rfl rfl (by decide) (by decide) (by decide)
theorem trbZp (z : Byte) : Statement (.trbZp z) :=
  of_opcode _ 0x14 2 rfl rfl (by decide) (by decide) (by decide)
theorem oraZpX (z : Byte) : Statement (.oraZpX z) :=
  of_opcode _ 0x15 2 rfl rfl (by decide) (by decide) (by decide)
theorem aslZpX (z : Byte) : Statement (.aslZpX z) :=
  of_opcode _ 0x16 2 rfl rfl (by decide) (by decide) (by decide)
theorem rmb1 (z : Byte) : Statement (.rmb1 z) :=
  of_opcode _ 0x17 2 rfl rfl (by decide) (by decide) (by decide)
theorem clc : Statement .clc :=
  of_opcode _ 0x18 1 rfl rfl (by decide) (by decide) (by decide)
theorem oraAbsY (addr : Word) : Statement (.oraAbsY addr) :=
  of_opcode _ 0x19 3 rfl rfl (by decide) (by decide) (by decide)
theorem incAcc : Statement .incAcc :=
  of_opcode _ 0x1A 1 rfl rfl (by decide) (by decide) (by decide)
theorem nop1B : Statement .nop1B :=
  of_opcode _ 0x1B 1 rfl rfl (by decide) (by decide) (by decide)
theorem trbAbs (addr : Word) : Statement (.trbAbs addr) :=
  of_opcode _ 0x1C 3 rfl rfl (by decide) (by decide) (by decide)
theorem oraAbsX (addr : Word) : Statement (.oraAbsX addr) :=
  of_opcode _ 0x1D 3 rfl rfl (by decide) (by decide) (by decide)
theorem aslAbsX (addr : Word) : Statement (.aslAbsX addr) :=
  of_opcode _ 0x1E 3 rfl rfl (by decide) (by decide) (by decide)
theorem bbr1 (z : Byte) (d : Byte) : Statement (.bbr1 z d) :=
  of_opcode _ 0x1F 3 rfl rfl (by decide) (by decide) (by decide)
theorem jsr (addr : Word) : Statement (.jsr addr) :=
  of_opcode _ 0x20 3 rfl rfl (by decide) (by decide) (by decide)
theorem andZpXInd (z : Byte) : Statement (.andZpXInd z) :=
  of_opcode _ 0x21 2 rfl rfl (by decide) (by decide) (by decide)
theorem nop22 (o : Byte) : Statement (.nop22 o) :=
  of_opcode _ 0x22 2 rfl rfl (by decide) (by decide) (by decide)
theorem nop23 : Statement .nop23 :=
  of_opcode _ 0x23 1 rfl rfl (by decide) (by decide) (by decide)
theorem bitZp (z : Byte) : Statement (.bitZp z) :=
  of_opcode _ 0x24 2 rfl rfl (by decide) (by decide) (by decide)
theorem andZp (z : Byte) : Statement (.andZp z) :=
  of_opcode _ 0x25 2 rfl rfl (by decide) (by decide) (by decide)
theorem rolZp (z : Byte) : Statement (.rolZp z) :=
  of_opcode _ 0x26 2 rfl rfl (by decide) (by decide) (by decide)
theorem rmb2 (z : Byte) : Statement (.rmb2 z) :=
  of_opcode _ 0x27 2 rfl rfl (by decide) (by decide) (by decide)
theorem plp : Statement .plp :=
  of_opcode _ 0x28 1 rfl rfl (by decide) (by decide) (by decide)
theorem andImm (v : Byte) : Statement (.andImm v) :=
  of_opcode _ 0x29 2 rfl rfl (by decide) (by decide) (by decide)
theorem rolAcc : Statement .rolAcc :=
  of_opcode _ 0x2A 1 rfl rfl (by decide) (by decide) (by decide)
theorem nop2B : Statement .nop2B :=
  of_opcode _ 0x2B 1 rfl rfl (by decide) (by decide) (by decide)
theorem bitAbs (addr : Word) : Statement (.bitAbs addr) :=
  of_opcode _ 0x2C 3 rfl rfl (by decide) (by decide) (by decide)
theorem andAbs (addr : Word) : Statement (.andAbs addr) :=
  of_opcode _ 0x2D 3 rfl rfl (by decide) (by decide) (by decide)
theorem rolAbs (addr : Word) : Statement (.rolAbs addr) :=
  of_opcode _ 0x2E 3 rfl rfl (by decide) (by decide) (by decide)
theorem bbr2 (z : Byte) (d : Byte) : Statement (.bbr2 z d) :=
  of_opcode _ 0x2F 3 rfl rfl (by decide) (by decide) (by decide)
theorem bmi (d : Byte) : Statement (.bmi d) :=
  of_opcode _ 0x30 2 rfl rfl (by decide) (by decide) (by decide)
theorem andZpIndY (z : Byte) : Statement (.andZpIndY z) :=
  of_opcode _ 0x31 2 rfl rfl (by decide) (by decide) (by decide)
theorem andZpInd (z : Byte) : Statement (.andZpInd z) :=
  of_opcode _ 0x32 2 rfl rfl (by decide) (by decide) (by decide)
theorem nop33 : Statement .nop33 :=
  of_opcode _ 0x33 1 rfl rfl (by decide) (by decide) (by decide)
theorem bitZpX (z : Byte) : Statement (.bitZpX z) :=
  of_opcode _ 0x34 2 rfl rfl (by decide) (by decide) (by decide)
theorem andZpX (z : Byte) : Statement (.andZpX z) :=
  of_opcode _ 0x35 2 rfl rfl (by decide) (by decide) (by decide)
theorem rolZpX (z : Byte) : Statement (.rolZpX z) :=
  of_opcode _ 0x36 2 rfl rfl (by decide) (by decide) (by decide)
theorem rmb3 (z : Byte) : Statement (.rmb3 z) :=
  of_opcode _ 0x37 2 rfl rfl (by decide) (by decide) (by decide)
theorem sec : Statement .sec :=
  of_opcode _ 0x38 1 rfl rfl (by decide) (by decide) (by decide)
theorem andAbsY (addr : Word) : Statement (.andAbsY addr) :=
  of_opcode _ 0x39 3 rfl rfl (by decide) (by decide) (by decide)
theorem decAcc : Statement .decAcc :=
  of_opcode _ 0x3A 1 rfl rfl (by decide) (by decide) (by decide)
theorem nop3B : Statement .nop3B :=
  of_opcode _ 0x3B 1 rfl rfl (by decide) (by decide) (by decide)
theorem bitAbsX (addr : Word) : Statement (.bitAbsX addr) :=
  of_opcode _ 0x3C 3 rfl rfl (by decide) (by decide) (by decide)
theorem andAbsX (addr : Word) : Statement (.andAbsX addr) :=
  of_opcode _ 0x3D 3 rfl rfl (by decide) (by decide) (by decide)
theorem rolAbsX (addr : Word) : Statement (.rolAbsX addr) :=
  of_opcode _ 0x3E 3 rfl rfl (by decide) (by decide) (by decide)
theorem bbr3 (z : Byte) (d : Byte) : Statement (.bbr3 z d) :=
  of_opcode _ 0x3F 3 rfl rfl (by decide) (by decide) (by decide)
theorem rti : Statement .rti :=
  of_opcode _ 0x40 1 rfl rfl (by decide) (by decide) (by decide)
theorem eorZpXInd (z : Byte) : Statement (.eorZpXInd z) :=
  of_opcode _ 0x41 2 rfl rfl (by decide) (by decide) (by decide)
theorem nop42 (o : Byte) : Statement (.nop42 o) :=
  of_opcode _ 0x42 2 rfl rfl (by decide) (by decide) (by decide)
theorem nop43 : Statement .nop43 :=
  of_opcode _ 0x43 1 rfl rfl (by decide) (by decide) (by decide)
theorem nop44 (o : Byte) : Statement (.nop44 o) :=
  of_opcode _ 0x44 2 rfl rfl (by decide) (by decide) (by decide)
theorem eorZp (z : Byte) : Statement (.eorZp z) :=
  of_opcode _ 0x45 2 rfl rfl (by decide) (by decide) (by decide)
theorem lsrZp (z : Byte) : Statement (.lsrZp z) :=
  of_opcode _ 0x46 2 rfl rfl (by decide) (by decide) (by decide)
theorem rmb4 (z : Byte) : Statement (.rmb4 z) :=
  of_opcode _ 0x47 2 rfl rfl (by decide) (by decide) (by decide)
theorem pha : Statement .pha :=
  of_opcode _ 0x48 1 rfl rfl (by decide) (by decide) (by decide)
theorem eorImm (v : Byte) : Statement (.eorImm v) :=
  of_opcode _ 0x49 2 rfl rfl (by decide) (by decide) (by decide)
theorem lsrAcc : Statement .lsrAcc :=
  of_opcode _ 0x4A 1 rfl rfl (by decide) (by decide) (by decide)
theorem nop4B : Statement .nop4B :=
  of_opcode _ 0x4B 1 rfl rfl (by decide) (by decide) (by decide)
theorem jmpAbs (addr : Word) : Statement (.jmpAbs addr) :=
  of_opcode _ 0x4C 3 rfl rfl (by decide) (by decide) (by decide)
theorem eorAbs (addr : Word) : Statement (.eorAbs addr) :=
  of_opcode _ 0x4D 3 rfl rfl (by decide) (by decide) (by decide)
theorem lsrAbs (addr : Word) : Statement (.lsrAbs addr) :=
  of_opcode _ 0x4E 3 rfl rfl (by decide) (by decide) (by decide)
theorem bbr4 (z : Byte) (d : Byte) : Statement (.bbr4 z d) :=
  of_opcode _ 0x4F 3 rfl rfl (by decide) (by decide) (by decide)
theorem bvc (d : Byte) : Statement (.bvc d) :=
  of_opcode _ 0x50 2 rfl rfl (by decide) (by decide) (by decide)
theorem eorZpIndY (z : Byte) : Statement (.eorZpIndY z) :=
  of_opcode _ 0x51 2 rfl rfl (by decide) (by decide) (by decide)
theorem eorZpInd (z : Byte) : Statement (.eorZpInd z) :=
  of_opcode _ 0x52 2 rfl rfl (by decide) (by decide) (by decide)
theorem nop53 : Statement .nop53 :=
  of_opcode _ 0x53 1 rfl rfl (by decide) (by decide) (by decide)
theorem nop54 (o : Byte) : Statement (.nop54 o) :=
  of_opcode _ 0x54 2 rfl rfl (by decide) (by decide) (by decide)
theorem eorZpX (z : Byte) : Statement (.eorZpX z) :=
  of_opcode _ 0x55 2 rfl rfl (by decide) (by decide) (by decide)
theorem lsrZpX (z : Byte) : Statement (.lsrZpX z) :=
  of_opcode _ 0x56 2 rfl rfl (by decide) (by decide) (by decide)
theorem rmb5 (z : Byte) : Statement (.rmb5 z) :=
  of_opcode _ 0x57 2 rfl rfl (by decide) (by decide) (by decide)
theorem cli : Statement .cli :=
  of_opcode _ 0x58 1 rfl rfl (by decide) (by decide) (by decide)
theorem eorAbsY (addr : Word) : Statement (.eorAbsY addr) :=
  of_opcode _ 0x59 3 rfl rfl (by decide) (by decide) (by decide)
theorem phy : Statement .phy :=
  of_opcode _ 0x5A 1 rfl rfl (by decide) (by decide) (by decide)
theorem nop5B : Statement .nop5B :=
  of_opcode _ 0x5B 1 rfl rfl (by decide) (by decide) (by decide)
theorem nop5C (o : Word) : Statement (.nop5C o) :=
  of_opcode _ 0x5C 3 rfl rfl (by decide) (by decide) (by decide)
theorem eorAbsX (addr : Word) : Statement (.eorAbsX addr) :=
  of_opcode _ 0x5D 3 rfl rfl (by decide) (by decide) (by decide)
theorem lsrAbsX (addr : Word) : Statement (.lsrAbsX addr) :=
  of_opcode _ 0x5E 3 rfl rfl (by decide) (by decide) (by decide)
theorem bbr5 (z : Byte) (d : Byte) : Statement (.bbr5 z d) :=
  of_opcode _ 0x5F 3 rfl rfl (by decide) (by decide) (by decide)
theorem rts : Statement .rts :=
  of_opcode _ 0x60 1 rfl rfl (by decide) (by decide) (by decide)
theorem adcZpXInd (z : Byte) : Statement (.adcZpXInd z) :=
  of_opcode _ 0x61 2 rfl rfl (by decide) (by decide) (by decide)
theorem nop62 (o : Byte) : Statement (.nop62 o) :=
  of_opcode _ 0x62 2 rfl rfl (by decide) (by decide) (by decide)
theorem nop63 : Statement .nop63 :=
  of_opcode _ 0x63 1 rfl rfl (by decide) (by decide) (by decide)
theorem stzZp (z : Byte) : Statement (.stzZp z) :=
  of_opcode _ 0x64 2 rfl rfl (by decide) (by decide) (by decide)
theorem adcZp (z : Byte) : Statement (.adcZp z) :=
  of_opcode _ 0x65 2 rfl rfl (by decide) (by decide) (by decide)
theorem rorZp (z : Byte) : Statement (.rorZp z) :=
  of_opcode _ 0x66 2 rfl rfl (by decide) (by decide) (by decide)
theorem rmb6 (z : Byte) : Statement (.rmb6 z) :=
  of_opcode _ 0x67 2 rfl rfl (by decide) (by decide) (by decide)
theorem pla : Statement .pla :=
  of_opcode _ 0x68 1 rfl rfl (by decide) (by decide) (by decide)
theorem adcImm (v : Byte) : Statement (.adcImm v) :=
  of_opcode _ 0x69 2 rfl rfl (by decide) (by decide) (by decide)
theorem rorAcc : Statement .rorAcc :=
  of_opcode _ 0x6A 1 rfl rfl (by decide) (by decide) (by decide)
theorem nop6B : Statement .nop6B :=
  of_opcode _ 0x6B 1 rfl rfl (by decide) (by decide) (by decide)
theorem jmpAbsInd (addr : Word) : Statement (.jmpAbsInd addr) :=
  of_opcode _ 0x6C 3 rfl rfl (by decide) (by decide) (by decide)
theorem adcAbs (addr : Word) : Statement (.adcAbs addr) :=
  of_opcode _ 0x6D 3 rfl rfl (by decide) (by decide) (by decide)
theorem rorAbs (addr : Word) : Statement (.rorAbs addr) :=
  of_opcode _ 0x6E 3 rfl rfl (by decide) (by decide) (by decide)
theorem bbr6 (z : Byte) (d : Byte) : Statement (.bbr6 z d) :=
  of_opcode _ 0x6F 3 rfl rfl (by decide) (by decide) (by decide)
theorem bvs (d : Byte) : Statement (.bvs d) :=
  of_opcode _ 0x70 2 rfl rfl (by decide) (by decide) (by decide)
theorem adcZpIndY (z : Byte) : Statement (.adcZpIndY z) :=
  of_opcode _ 0x71 2 rfl rfl (by decide) (by decide) (by decide)
theorem adcZpInd (z : Byte) : Statement (.adcZpInd z) :=
  of_opcode _ 0x72 2 rfl rfl (by decide) (by decide) (by decide)
theorem nop73 : Statement .nop73 :=
  of_opcode _ 0x73 1 rfl rfl (by decide) (by decide) (by decide)
theorem stzZpX (z : Byte) : Statement (.stzZpX z) :=
  of_opcode _ 0x74 2 rfl rfl (by decide) (by decide) (by decide)
theorem adcZpX (z : Byte) : Statement (.adcZpX z) :=
  of_opcode _ 0x75 2 rfl rfl (by decide) (by decide) (by decide)
theorem rorZpX (z : Byte) : Statement (.rorZpX z) :=
  of_opcode _ 0x76 2 rfl rfl (by decide) (by decide) (by decide)
theorem rmb7 (z : Byte) : Statement (.rmb7 z) :=
  of_opcode _ 0x77 2 rfl rfl (by decide) (by decide) (by decide)
theorem sei : Statement .sei :=
  of_opcode _ 0x78 1 rfl rfl (by decide) (by decide) (by decide)
theorem adcAbsY (addr : Word) : Statement (.adcAbsY addr) :=
  of_opcode _ 0x79 3 rfl rfl (by decide) (by decide) (by decide)
theorem ply : Statement .ply :=
  of_opcode _ 0x7A 1 rfl rfl (by decide) (by decide) (by decide)
theorem nop7B : Statement .nop7B :=
  of_opcode _ 0x7B 1 rfl rfl (by decide) (by decide) (by decide)
theorem jmpAbsXInd (addr : Word) : Statement (.jmpAbsXInd addr) :=
  of_opcode _ 0x7C 3 rfl rfl (by decide) (by decide) (by decide)
theorem adcAbsX (addr : Word) : Statement (.adcAbsX addr) :=
  of_opcode _ 0x7D 3 rfl rfl (by decide) (by decide) (by decide)
theorem rorAbsX (addr : Word) : Statement (.rorAbsX addr) :=
  of_opcode _ 0x7E 3 rfl rfl (by decide) (by decide) (by decide)
theorem bbr7 (z : Byte) (d : Byte) : Statement (.bbr7 z d) :=
  of_opcode _ 0x7F 3 rfl rfl (by decide) (by decide) (by decide)
theorem bra (d : Byte) : Statement (.bra d) :=
  of_opcode _ 0x80 2 rfl rfl (by decide) (by decide) (by decide)
theorem staZpXInd (z : Byte) : Statement (.staZpXInd z) :=
  of_opcode _ 0x81 2 rfl rfl (by decide) (by decide) (by decide)
theorem nop82 (o : Byte) : Statement (.nop82 o) :=
  of_opcode _ 0x82 2 rfl rfl (by decide) (by decide) (by decide)
theorem nop83 : Statement .nop83 :=
  of_opcode _ 0x83 1 rfl rfl (by decide) (by decide) (by decide)
theorem styZp (z : Byte) : Statement (.styZp z) :=
  of_opcode _ 0x84 2 rfl rfl (by decide) (by decide) (by decide)
theorem staZp (z : Byte) : Statement (.staZp z) :=
  of_opcode _ 0x85 2 rfl rfl (by decide) (by decide) (by decide)
theorem stxZp (z : Byte) : Statement (.stxZp z) :=
  of_opcode _ 0x86 2 rfl rfl (by decide) (by decide) (by decide)
theorem smb0 (z : Byte) : Statement (.smb0 z) :=
  of_opcode _ 0x87 2 rfl rfl (by decide) (by decide) (by decide)
theorem dey : Statement .dey :=
  of_opcode _ 0x88 1 rfl rfl (by decide) (by decide) (by decide)
theorem bitImm (v : Byte) : Statement (.bitImm v) :=
  of_opcode _ 0x89 2 rfl rfl (by decide) (by decide) (by decide)
theorem txa : Statement .txa :=
  of_opcode _ 0x8A 1 rfl rfl (by decide) (by decide) (by decide)
theorem nop8B : Statement .nop8B :=
  of_opcode _ 0x8B 1 rfl rfl (by decide) (by decide) (by decide)
theorem styAbs (addr : Word) : Statement (.styAbs addr) :=
  of_opcode _ 0x8C 3 rfl rfl (by decide) (by decide) (by decide)
theorem staAbs (addr : Word) : Statement (.staAbs addr) :=
  of_opcode _ 0x8D 3 rfl rfl (by decide) (by decide) (by decide)
theorem stxAbs (addr : Word) : Statement (.stxAbs addr) :=
  of_opcode _ 0x8E 3 rfl rfl (by decide) (by decide) (by decide)
theorem bbs0 (z : Byte) (d : Byte) : Statement (.bbs0 z d) :=
  of_opcode _ 0x8F 3 rfl rfl (by decide) (by decide) (by decide)
theorem bcc (d : Byte) : Statement (.bcc d) :=
  of_opcode _ 0x90 2 rfl rfl (by decide) (by decide) (by decide)
theorem staZpIndY (z : Byte) : Statement (.staZpIndY z) :=
  of_opcode _ 0x91 2 rfl rfl (by decide) (by decide) (by decide)
theorem staZpInd (z : Byte) : Statement (.staZpInd z) :=
  of_opcode _ 0x92 2 rfl rfl (by decide) (by decide) (by decide)
theorem nop93 : Statement .nop93 :=
  of_opcode _ 0x93 1 rfl rfl (by decide) (by decide) (by decide)
theorem styZpX (z : Byte) : Statement (.styZpX z) :=
  of_opcode _ 0x94 2 rfl rfl (by decide) (by decide) (by decide)
theorem staZpX (z : Byte) : Statement (.staZpX z) :=
  of_opcode _ 0x95 2 rfl rfl (by decide) (by decide) (by decide)
theorem stxZpY (z : Byte) : Statement (.stxZpY z) :=
  of_opcode _ 0x96 2 rfl rfl (by decide) (by decide) (by decide)
theorem smb1 (z : Byte) : Statement (.smb1 z) :=
  of_opcode _ 0x97 2 rfl rfl (by decide) (by decide) (by decide)
theorem tya : Statement .tya :=
  of_opcode _ 0x98 1 rfl rfl (by decide) (by decide) (by decide)
theorem staAbsY (addr : Word) : Statement (.staAbsY addr) :=
  of_opcode _ 0x99 3 rfl rfl (by decide) (by decide) (by decide)
theorem txs : Statement .txs :=
  of_opcode _ 0x9A 1 rfl rfl (by decide) (by decide) (by decide)
theorem nop9B : Statement .nop9B :=
  of_opcode _ 0x9B 1 rfl rfl (by decide) (by decide) (by decide)
theorem stzAbs (addr : Word) : Statement (.stzAbs addr) :=
  of_opcode _ 0x9C 3 rfl rfl (by decide) (by decide) (by decide)
theorem staAbsX (addr : Word) : Statement (.staAbsX addr) :=
  of_opcode _ 0x9D 3 rfl rfl (by decide) (by decide) (by decide)
theorem stzAbsX (addr : Word) : Statement (.stzAbsX addr) :=
  of_opcode _ 0x9E 3 rfl rfl (by decide) (by decide) (by decide)
theorem bbs1 (z : Byte) (d : Byte) : Statement (.bbs1 z d) :=
  of_opcode _ 0x9F 3 rfl rfl (by decide) (by decide) (by decide)
theorem ldyImm (v : Byte) : Statement (.ldyImm v) :=
  of_opcode _ 0xA0 2 rfl rfl (by decide) (by decide) (by decide)
theorem ldaZpXInd (z : Byte) : Statement (.ldaZpXInd z) :=
  of_opcode _ 0xA1 2 rfl rfl (by decide) (by decide) (by decide)
theorem ldxImm (v : Byte) : Statement (.ldxImm v) :=
  of_opcode _ 0xA2 2 rfl rfl (by decide) (by decide) (by decide)
theorem nopA3 : Statement .nopA3 :=
  of_opcode _ 0xA3 1 rfl rfl (by decide) (by decide) (by decide)
theorem ldyZp (z : Byte) : Statement (.ldyZp z) :=
  of_opcode _ 0xA4 2 rfl rfl (by decide) (by decide) (by decide)
theorem ldaZp (z : Byte) : Statement (.ldaZp z) :=
  of_opcode _ 0xA5 2 rfl rfl (by decide) (by decide) (by decide)
theorem ldxZp (z : Byte) : Statement (.ldxZp z) :=
  of_opcode _ 0xA6 2 rfl rfl (by decide) (by decide) (by decide)
theorem smb2 (z : Byte) : Statement (.smb2 z) :=
  of_opcode _ 0xA7 2 rfl rfl (by decide) (by decide) (by decide)
theorem tay : Statement .tay :=
  of_opcode _ 0xA8 1 rfl rfl (by decide) (by decide) (by decide)
theorem ldaImm (v : Byte) : Statement (.ldaImm v) :=
  of_opcode _ 0xA9 2 rfl rfl (by decide) (by decide) (by decide)
theorem tax : Statement .tax :=
  of_opcode _ 0xAA 1 rfl rfl (by decide) (by decide) (by decide)
theorem nopAB : Statement .nopAB :=
  of_opcode _ 0xAB 1 rfl rfl (by decide) (by decide) (by decide)
theorem ldyAbs (addr : Word) : Statement (.ldyAbs addr) :=
  of_opcode _ 0xAC 3 rfl rfl (by decide) (by decide) (by decide)
theorem ldaAbs (addr : Word) : Statement (.ldaAbs addr) :=
  of_opcode _ 0xAD 3 rfl rfl (by decide) (by decide) (by decide)
theorem ldxAbs (addr : Word) : Statement (.ldxAbs addr) :=
  of_opcode _ 0xAE 3 rfl rfl (by decide) (by decide) (by decide)
theorem bbs2 (z : Byte) (d : Byte) : Statement (.bbs2 z d) :=
  of_opcode _ 0xAF 3 rfl rfl (by decide) (by decide) (by decide)
theorem bcs (d : Byte) : Statement (.bcs d) :=
  of_opcode _ 0xB0 2 rfl rfl (by decide) (by decide) (by decide)
theorem ldaZpIndY (z : Byte) : Statement (.ldaZpIndY z) :=
  of_opcode _ 0xB1 2 rfl rfl (by decide) (by decide) (by decide)
theorem ldaZpInd (z : Byte) : Statement (.ldaZpInd z) :=
  of_opcode _ 0xB2 2 rfl rfl (by decide) (by decide) (by decide)
theorem nopB3 : Statement .nopB3 :=
  of_opcode _ 0xB3 1 rfl rfl (by decide) (by decide) (by decide)
theorem ldyZpX (z : Byte) : Statement (.ldyZpX z) :=
  of_opcode _ 0xB4 2 rfl rfl (by decide) (by decide) (by decide)
theorem ldaZpX (z : Byte) : Statement (.ldaZpX z) :=
  of_opcode _ 0xB5 2 rfl rfl (by decide) (by decide) (by decide)
theorem ldxZpY (z : Byte) : Statement (.ldxZpY z) :=
  of_opcode _ 0xB6 2 rfl rfl (by decide) (by decide) (by decide)
theorem smb3 (z : Byte) : Statement (.smb3 z) :=
  of_opcode _ 0xB7 2 rfl rfl (by decide) (by decide) (by decide)
theorem clv : Statement .clv :=
  of_opcode _ 0xB8 1 rfl rfl (by decide) (by decide) (by decide)
theorem ldaAbsY (addr : Word) : Statement (.ldaAbsY addr) :=
  of_opcode _ 0xB9 3 rfl rfl (by decide) (by decide) (by decide)
theorem tsx : Statement .tsx :=
  of_opcode _ 0xBA 1 rfl rfl (by decide) (by decide) (by decide)
theorem nopBB : Statement .nopBB :=
  of_opcode _ 0xBB 1 rfl rfl (by decide) (by decide) (by decide)
theorem ldyAbsX (addr : Word) : Statement (.ldyAbsX addr) :=
  of_opcode _ 0xBC 3 rfl rfl (by decide) (by decide) (by decide)
theorem ldaAbsX (addr : Word) : Statement (.ldaAbsX addr) :=
  of_opcode _ 0xBD 3 rfl rfl (by decide) (by decide) (by decide)
theorem ldxAbsY (addr : Word) : Statement (.ldxAbsY addr) :=
  of_opcode _ 0xBE 3 rfl rfl (by decide) (by decide) (by decide)
theorem bbs3 (z : Byte) (d : Byte) : Statement (.bbs3 z d) :=
  of_opcode _ 0xBF 3 rfl rfl (by decide) (by decide) (by decide)
theorem cpyImm (v : Byte) : Statement (.cpyImm v) :=
  of_opcode _ 0xC0 2 rfl rfl (by decide) (by decide) (by decide)
theorem cmpZpXInd (z : Byte) : Statement (.cmpZpXInd z) :=
  of_opcode _ 0xC1 2 rfl rfl (by decide) (by decide) (by decide)
theorem nopC2 (o : Byte) : Statement (.nopC2 o) :=
  of_opcode _ 0xC2 2 rfl rfl (by decide) (by decide) (by decide)
theorem nopC3 : Statement .nopC3 :=
  of_opcode _ 0xC3 1 rfl rfl (by decide) (by decide) (by decide)
theorem cpyZp (z : Byte) : Statement (.cpyZp z) :=
  of_opcode _ 0xC4 2 rfl rfl (by decide) (by decide) (by decide)
theorem cmpZp (z : Byte) : Statement (.cmpZp z) :=
  of_opcode _ 0xC5 2 rfl rfl (by decide) (by decide) (by decide)
theorem decZp (z : Byte) : Statement (.decZp z) :=
  of_opcode _ 0xC6 2 rfl rfl (by decide) (by decide) (by decide)
theorem smb4 (z : Byte) : Statement (.smb4 z) :=
  of_opcode _ 0xC7 2 rfl rfl (by decide) (by decide) (by decide)
theorem iny : Statement .iny :=
  of_opcode _ 0xC8 1 rfl rfl (by decide) (by decide) (by decide)
theorem cmpImm (v : Byte) : Statement (.cmpImm v) :=
  of_opcode _ 0xC9 2 rfl rfl (by decide) (by decide) (by decide)
theorem dex : Statement .dex :=
  of_opcode _ 0xCA 1 rfl rfl (by decide) (by decide) (by decide)
theorem wai : Statement .wai :=
  of_opcode _ 0xCB 1 rfl rfl (by decide) (by decide) (by decide)
theorem cpyAbs (addr : Word) : Statement (.cpyAbs addr) :=
  of_opcode _ 0xCC 3 rfl rfl (by decide) (by decide) (by decide)
theorem cmpAbs (addr : Word) : Statement (.cmpAbs addr) :=
  of_opcode _ 0xCD 3 rfl rfl (by decide) (by decide) (by decide)
theorem decAbs (addr : Word) : Statement (.decAbs addr) :=
  of_opcode _ 0xCE 3 rfl rfl (by decide) (by decide) (by decide)
theorem bbs4 (z : Byte) (d : Byte) : Statement (.bbs4 z d) :=
  of_opcode _ 0xCF 3 rfl rfl (by decide) (by decide) (by decide)
theorem bne (d : Byte) : Statement (.bne d) :=
  of_opcode _ 0xD0 2 rfl rfl (by decide) (by decide) (by decide)
theorem cmpZpIndY (z : Byte) : Statement (.cmpZpIndY z) :=
  of_opcode _ 0xD1 2 rfl rfl (by decide) (by decide) (by decide)
theorem cmpZpInd (z : Byte) : Statement (.cmpZpInd z) :=
  of_opcode _ 0xD2 2 rfl rfl (by decide) (by decide) (by decide)
theorem nopD3 : Statement .nopD3 :=
  of_opcode _ 0xD3 1 rfl rfl (by decide) (by decide) (by decide)
theorem nopD4 (o : Byte) : Statement (.nopD4 o) :=
  of_opcode _ 0xD4 2 rfl rfl (by decide) (by decide) (by decide)
theorem cmpZpX (z : Byte) : Statement (.cmpZpX z) :=
  of_opcode _ 0xD5 2 rfl rfl (by decide) (by decide) (by decide)
theorem decZpX (z : Byte) : Statement (.decZpX z) :=
  of_opcode _ 0xD6 2 rfl rfl (by decide) (by decide) (by decide)
theorem smb5 (z : Byte) : Statement (.smb5 z) :=
  of_opcode _ 0xD7 2 rfl rfl (by decide) (by decide) (by decide)
theorem cld : Statement .cld :=
  of_opcode _ 0xD8 1 rfl rfl (by decide) (by decide) (by decide)
theorem cmpAbsY (addr : Word) : Statement (.cmpAbsY addr) :=
  of_opcode _ 0xD9 3 rfl rfl (by decide) (by decide) (by decide)
theorem phx : Statement .phx :=
  of_opcode _ 0xDA 1 rfl rfl (by decide) (by decide) (by decide)
theorem stp : Statement .stp :=
  of_opcode _ 0xDB 1 rfl rfl (by decide) (by decide) (by decide)
theorem nopDC (o : Word) : Statement (.nopDC o) :=
  of_opcode _ 0xDC 3 rfl rfl (by decide) (by decide) (by decide)
theorem cmpAbsX (addr : Word) : Statement (.cmpAbsX addr) :=
  of_opcode _ 0xDD 3 rfl rfl (by decide) (by decide) (by decide)
theorem decAbsX (addr : Word) : Statement (.decAbsX addr) :=
  of_opcode _ 0xDE 3 rfl rfl (by decide) (by decide) (by decide)
theorem bbs5 (z : Byte) (d : Byte) : Statement (.bbs5 z d) :=
  of_opcode _ 0xDF 3 rfl rfl (by decide) (by decide) (by decide)
theorem cpxImm (v : Byte) : Statement (.cpxImm v) :=
  of_opcode _ 0xE0 2 rfl rfl (by decide) (by decide) (by decide)
theorem sbcZpXInd (z : Byte) : Statement (.sbcZpXInd z) :=
  of_opcode _ 0xE1 2 rfl rfl (by decide) (by decide) (by decide)
theorem nopE2 (o : Byte) : Statement (.nopE2 o) :=
  of_opcode _ 0xE2 2 rfl rfl (by decide) (by decide) (by decide)
theorem nopE3 : Statement .nopE3 :=
  of_opcode _ 0xE3 1 rfl rfl (by decide) (by decide) (by decide)
theorem cpxZp (z : Byte) : Statement (.cpxZp z) :=
  of_opcode _ 0xE4 2 rfl rfl (by decide) (by decide) (by decide)
theorem sbcZp (z : Byte) : Statement (.sbcZp z) :=
  of_opcode _ 0xE5 2 rfl rfl (by decide) (by decide) (by decide)
theorem incZp (z : Byte) : Statement (.incZp z) :=
  of_opcode _ 0xE6 2 rfl rfl (by decide) (by decide) (by decide)
theorem smb6 (z : Byte) : Statement (.smb6 z) :=
  of_opcode _ 0xE7 2 rfl rfl (by decide) (by decide) (by decide)
theorem inx : Statement .inx :=
  of_opcode _ 0xE8 1 rfl rfl (by decide) (by decide) (by decide)
theorem sbcImm (v : Byte) : Statement (.sbcImm v) :=
  of_opcode _ 0xE9 2 rfl rfl (by decide) (by decide) (by decide)
theorem nop : Statement .nop :=
  of_opcode _ 0xEA 1 rfl rfl (by decide) (by decide) (by decide)
theorem nopEB : Statement .nopEB :=
  of_opcode _ 0xEB 1 rfl rfl (by decide) (by decide) (by decide)
theorem cpxAbs (addr : Word) : Statement (.cpxAbs addr) :=
  of_opcode _ 0xEC 3 rfl rfl (by decide) (by decide) (by decide)
theorem sbcAbs (addr : Word) : Statement (.sbcAbs addr) :=
  of_opcode _ 0xED 3 rfl rfl (by decide) (by decide) (by decide)
theorem incAbs (addr : Word) : Statement (.incAbs addr) :=
  of_opcode _ 0xEE 3 rfl rfl (by decide) (by decide) (by decide)
theorem bbs6 (z : Byte) (d : Byte) : Statement (.bbs6 z d) :=
  of_opcode _ 0xEF 3 rfl rfl (by decide) (by decide) (by decide)
theorem beq (d : Byte) : Statement (.beq d) :=
  of_opcode _ 0xF0 2 rfl rfl (by decide) (by decide) (by decide)
theorem sbcZpIndY (z : Byte) : Statement (.sbcZpIndY z) :=
  of_opcode _ 0xF1 2 rfl rfl (by decide) (by decide) (by decide)
theorem sbcZpInd (z : Byte) : Statement (.sbcZpInd z) :=
  of_opcode _ 0xF2 2 rfl rfl (by decide) (by decide) (by decide)
theorem nopF3 : Statement .nopF3 :=
  of_opcode _ 0xF3 1 rfl rfl (by decide) (by decide) (by decide)
theorem nopF4 (o : Byte) : Statement (.nopF4 o) :=
  of_opcode _ 0xF4 2 rfl rfl (by decide) (by decide) (by decide)
theorem sbcZpX (z : Byte) : Statement (.sbcZpX z) :=
  of_opcode _ 0xF5 2 rfl rfl (by decide) (by decide) (by decide)
theorem incZpX (z : Byte) : Statement (.incZpX z) :=
  of_opcode _ 0xF6 2 rfl rfl (by decide) (by decide) (by decide)
theorem smb7 (z : Byte) : Statement (.smb7 z) :=
  of_opcode _ 0xF7 2 rfl rfl (by decide) (by decide) (by decide)
theorem sed : Statement .sed :=
  of_opcode _ 0xF8 1 rfl rfl (by decide) (by decide) (by decide)
theorem sbcAbsY (addr : Word) : Statement (.sbcAbsY addr) :=
  of_opcode _ 0xF9 3 rfl rfl (by decide) (by decide) (by decide)
theorem plx : Statement .plx :=
  of_opcode _ 0xFA 1 rfl rfl (by decide) (by decide) (by decide)
theorem nopFB : Statement .nopFB :=
  of_opcode _ 0xFB 1 rfl rfl (by decide) (by decide) (by decide)
theorem nopFC (o : Word) : Statement (.nopFC o) :=
  of_opcode _ 0xFC 3 rfl rfl (by decide) (by decide) (by decide)
theorem sbcAbsX (addr : Word) : Statement (.sbcAbsX addr) :=
  of_opcode _ 0xFD 3 rfl rfl (by decide) (by decide) (by decide)
theorem incAbsX (addr : Word) : Statement (.incAbsX addr) :=
  of_opcode _ 0xFE 3 rfl rfl (by decide) (by decide) (by decide)
theorem bbs7 (z : Byte) (d : Byte) : Statement (.bbs7 z d) :=
  of_opcode _ 0xFF 3 rfl rfl (by decide) (by decide) (by decide)

end Sys2Proof.Laws.EncodedLength
end

