-- ==== Sys2Proof/Tests/Slice0.lean ====
section
/-! SUPPORT. Tests. The expected results come from the spec: the encodings of 30_encoding, the vectors of
95_test_vectors, and the platform rules of 20_memory. The witnesses show concrete states that meet the
hypotheses of the statements. -/

namespace Sys2Proof.Tests

open Sys2Proof Sys2Proof.Machine

/-! ## Well-formedness: each check refuses an ill-formed platform -/

theorem test_testMap_wellFormed : Config.testMap.wellFormed = true := by decide

theorem test_instr_wellFormed : (Instr.bbr0 0xFF 0x80).wellFormed = true := by decide

theorem test_refused_region_reversed :
    ({ Config.testMap with regions := Config.testMap.regions ++ [⟨0xE001, 0xE000, .rom⟩] } : Config).wellFormed = false := by decide

theorem test_refused_region_past_ffff :
    ({ Config.testMap with regions := Config.testMap.regions ++ [⟨0xE000, 0x10000, .rom⟩] } : Config).wellFormed = false := by decide

theorem test_refused_region_overlap :
    ({ Config.testMap with regions := Config.testMap.regions ++ [⟨0xBFFF, 0xBFFF, .rom⟩] } : Config).wellFormed = false := by decide

theorem test_refused_frame_of_no_cycles :
    ({ Config.testMap with cyclesPerFrame := 0 } : Config).wellFormed = false := by decide

theorem test_refused_video_past_buffer :
    ({ Config.testMap with videoSize := 4095 } : Config).wellFormed = false := by decide

theorem test_refused_video_before_base :
    ({ Config.testMap with videoBase := 0xC001 } : Config).wellFormed = false := by decide

theorem test_refused_uart_one_address :
    ({ Config.testMap with uartDataAddr := 0xD000 } : Config).wellFormed = false := by decide

theorem test_refused_uart_one_bit :
    ({ Config.testMap with uartOvrBit := 0 } : Config).wellFormed = false := by decide

theorem test_refused_uart_status_outside :
    ({ Config.testMap with uartStatusAddr := 0xD010 } : Config).wellFormed = false := by decide

theorem test_refused_uart_data_outside :
    ({ Config.testMap with uartDataAddr := 0xE000 } : Config).wellFormed = false := by decide

theorem test_refused_kbd_one_address :
    ({ Config.testMap with kbdColAddr := 0xD010 } : Config).wellFormed = false := by decide

theorem test_refused_kbd_row_outside :
    ({ Config.testMap with kbdRowAddr := 0xD000 } : Config).wellFormed = false := by decide

theorem test_refused_kbd_column_outside :
    ({ Config.testMap with kbdColAddr := 0xE000 } : Config).wellFormed = false := by decide

theorem test_refused_bank_region_unwired :
    ({ Config.testMap with regions := Config.testMap.regions ++ [⟨0xD020, 0xD020, .bankReg⟩] } : Config).wellFormed = false := by decide

theorem test_refused_bank_window_unwired :
    ({ Config.testMap with regions := Config.testMap.regions ++ [⟨0xD100, 0xD1FF, .bankWindow⟩] } : Config).wellFormed = false := by decide

/-- TEST_MAP with the bank register of the vectors BK-1 and BK-2, and a ROM at 0xE000 to 0xFFFF. -/
def bank : BankConfig := ⟨0xD020, 0xD100, 0x100, 4, 0, [[], [(0, 0x11)], [(0, 0x22)], [(0, 0x33)]]⟩

/-- The platform of the tests, with the bank register `b`. -/
def platform (b : BankConfig) : Config :=
  { Config.testMap with
    regions := Config.testMap.regions ++
      [⟨0xD020, 0xD020, .bankReg⟩, ⟨0xD100, 0xD1FF, .bankWindow⟩, ⟨0xE000, 0xFFFF, .rom⟩]
    bank := some b }

theorem test_bank_wellFormed : (platform bank).wellFormed = true := by decide

theorem test_refused_bank_count_zero :
    (platform { bank with count := 0, images := [] }).wellFormed = false := by decide

theorem test_refused_bank_count_past_byte :
    (platform { bank with count := 257, images := List.replicate 257 [] }).wellFormed = false := by decide

theorem test_refused_bank_init :
    (platform { bank with init := 4 }).wellFormed = false := by decide

theorem test_refused_bank_images :
    (platform { bank with images := [[]] }).wellFormed = false := by decide

theorem test_refused_bank_image_not_canonical :
    (platform { bank with images := [[], [], [], [(0, 0x00)]] }).wellFormed = false := by decide

theorem test_refused_bank_register_elsewhere :
    (platform { bank with regAddr := 0xD021 }).wellFormed = false := by decide

theorem test_refused_bank_window_elsewhere :
    (platform { bank with windowBase := 0xD101 }).wellFormed = false := by decide

/-! ## Decoding: the 256 encodings of 30_encoding (R101 to R106), operand bytes 0x34 then 0x12 -/

theorem test_decode_row_0 :
    [[0x00, 0x34], [0x01, 0x34], [0x02, 0x34], [0x03], [0x04, 0x34], [0x05, 0x34], [0x06, 0x34],
      [0x07, 0x34], [0x08], [0x09, 0x34], [0x0A], [0x0B], [0x0C, 0x34, 0x12], [0x0D, 0x34, 0x12],
      [0x0E, 0x34, 0x12], [0x0F, 0x34, 0x12]].map (fun bs => (decode bs).toOption) =
      ([.brk 0x34, .oraZpXInd 0x34, .nop02 0x34, .nop03, .tsbZp 0x34, .oraZp 0x34, .aslZp 0x34, .rmb0 0x34,
        .php, .oraImm 0x34, .aslAcc, .nop0B, .tsbAbs 0x1234, .oraAbs 0x1234, .aslAbs 0x1234,
        .bbr0 0x34 0x12] : List Instr).map
        fun i => some (i, []) := by decide

theorem test_decode_row_1 :
    [[0x10, 0x34], [0x11, 0x34], [0x12, 0x34], [0x13], [0x14, 0x34], [0x15, 0x34], [0x16, 0x34],
      [0x17, 0x34], [0x18], [0x19, 0x34, 0x12], [0x1A], [0x1B], [0x1C, 0x34, 0x12], [0x1D, 0x34, 0x12],
      [0x1E, 0x34, 0x12], [0x1F, 0x34, 0x12]].map (fun bs => (decode bs).toOption) =
      ([.bpl 0x34, .oraZpIndY 0x34, .oraZpInd 0x34, .nop13, .trbZp 0x34, .oraZpX 0x34, .aslZpX 0x34,
        .rmb1 0x34, .clc, .oraAbsY 0x1234, .incAcc, .nop1B, .trbAbs 0x1234, .oraAbsX 0x1234,
        .aslAbsX 0x1234, .bbr1 0x34 0x12] : List Instr).map
        fun i => some (i, []) := by decide

theorem test_decode_row_2 :
    [[0x20, 0x34, 0x12], [0x21, 0x34], [0x22, 0x34], [0x23], [0x24, 0x34], [0x25, 0x34], [0x26, 0x34],
      [0x27, 0x34], [0x28], [0x29, 0x34], [0x2A], [0x2B], [0x2C, 0x34, 0x12], [0x2D, 0x34, 0x12],
      [0x2E, 0x34, 0x12], [0x2F, 0x34, 0x12]].map (fun bs => (decode bs).toOption) =
      ([.jsr 0x1234, .andZpXInd 0x34, .nop22 0x34, .nop23, .bitZp 0x34, .andZp 0x34, .rolZp 0x34,
        .rmb2 0x34, .plp, .andImm 0x34, .rolAcc, .nop2B, .bitAbs 0x1234, .andAbs 0x1234, .rolAbs 0x1234,
        .bbr2 0x34 0x12] : List Instr).map
        fun i => some (i, []) := by decide

theorem test_decode_row_3 :
    [[0x30, 0x34], [0x31, 0x34], [0x32, 0x34], [0x33], [0x34, 0x34], [0x35, 0x34], [0x36, 0x34],
      [0x37, 0x34], [0x38], [0x39, 0x34, 0x12], [0x3A], [0x3B], [0x3C, 0x34, 0x12], [0x3D, 0x34, 0x12],
      [0x3E, 0x34, 0x12], [0x3F, 0x34, 0x12]].map (fun bs => (decode bs).toOption) =
      ([.bmi 0x34, .andZpIndY 0x34, .andZpInd 0x34, .nop33, .bitZpX 0x34, .andZpX 0x34, .rolZpX 0x34,
        .rmb3 0x34, .sec, .andAbsY 0x1234, .decAcc, .nop3B, .bitAbsX 0x1234, .andAbsX 0x1234,
        .rolAbsX 0x1234, .bbr3 0x34 0x12] : List Instr).map
        fun i => some (i, []) := by decide

theorem test_decode_row_4 :
    [[0x40], [0x41, 0x34], [0x42, 0x34], [0x43], [0x44, 0x34], [0x45, 0x34], [0x46, 0x34], [0x47, 0x34],
      [0x48], [0x49, 0x34], [0x4A], [0x4B], [0x4C, 0x34, 0x12], [0x4D, 0x34, 0x12], [0x4E, 0x34, 0x12],
      [0x4F, 0x34, 0x12]].map (fun bs => (decode bs).toOption) =
      ([.rti, .eorZpXInd 0x34, .nop42 0x34, .nop43, .nop44 0x34, .eorZp 0x34, .lsrZp 0x34, .rmb4 0x34,
        .pha, .eorImm 0x34, .lsrAcc, .nop4B, .jmpAbs 0x1234, .eorAbs 0x1234, .lsrAbs 0x1234,
        .bbr4 0x34 0x12] : List Instr).map
        fun i => some (i, []) := by decide

theorem test_decode_row_5 :
    [[0x50, 0x34], [0x51, 0x34], [0x52, 0x34], [0x53], [0x54, 0x34], [0x55, 0x34], [0x56, 0x34],
      [0x57, 0x34], [0x58], [0x59, 0x34, 0x12], [0x5A], [0x5B], [0x5C, 0x34, 0x12], [0x5D, 0x34, 0x12],
      [0x5E, 0x34, 0x12], [0x5F, 0x34, 0x12]].map (fun bs => (decode bs).toOption) =
      ([.bvc 0x34, .eorZpIndY 0x34, .eorZpInd 0x34, .nop53, .nop54 0x34, .eorZpX 0x34, .lsrZpX 0x34,
        .rmb5 0x34, .cli, .eorAbsY 0x1234, .phy, .nop5B, .nop5C 0x1234, .eorAbsX 0x1234, .lsrAbsX 0x1234,
        .bbr5 0x34 0x12] : List Instr).map
        fun i => some (i, []) := by decide

theorem test_decode_row_6 :
    [[0x60], [0x61, 0x34], [0x62, 0x34], [0x63], [0x64, 0x34], [0x65, 0x34], [0x66, 0x34], [0x67, 0x34],
      [0x68], [0x69, 0x34], [0x6A], [0x6B], [0x6C, 0x34, 0x12], [0x6D, 0x34, 0x12], [0x6E, 0x34, 0x12],
      [0x6F, 0x34, 0x12]].map (fun bs => (decode bs).toOption) =
      ([.rts, .adcZpXInd 0x34, .nop62 0x34, .nop63, .stzZp 0x34, .adcZp 0x34, .rorZp 0x34, .rmb6 0x34,
        .pla, .adcImm 0x34, .rorAcc, .nop6B, .jmpAbsInd 0x1234, .adcAbs 0x1234, .rorAbs 0x1234,
        .bbr6 0x34 0x12] : List Instr).map
        fun i => some (i, []) := by decide

theorem test_decode_row_7 :
    [[0x70, 0x34], [0x71, 0x34], [0x72, 0x34], [0x73], [0x74, 0x34], [0x75, 0x34], [0x76, 0x34],
      [0x77, 0x34], [0x78], [0x79, 0x34, 0x12], [0x7A], [0x7B], [0x7C, 0x34, 0x12], [0x7D, 0x34, 0x12],
      [0x7E, 0x34, 0x12], [0x7F, 0x34, 0x12]].map (fun bs => (decode bs).toOption) =
      ([.bvs 0x34, .adcZpIndY 0x34, .adcZpInd 0x34, .nop73, .stzZpX 0x34, .adcZpX 0x34, .rorZpX 0x34,
        .rmb7 0x34, .sei, .adcAbsY 0x1234, .ply, .nop7B, .jmpAbsXInd 0x1234, .adcAbsX 0x1234,
        .rorAbsX 0x1234, .bbr7 0x34 0x12] : List Instr).map
        fun i => some (i, []) := by decide

theorem test_decode_row_8 :
    [[0x80, 0x34], [0x81, 0x34], [0x82, 0x34], [0x83], [0x84, 0x34], [0x85, 0x34], [0x86, 0x34],
      [0x87, 0x34], [0x88], [0x89, 0x34], [0x8A], [0x8B], [0x8C, 0x34, 0x12], [0x8D, 0x34, 0x12],
      [0x8E, 0x34, 0x12], [0x8F, 0x34, 0x12]].map (fun bs => (decode bs).toOption) =
      ([.bra 0x34, .staZpXInd 0x34, .nop82 0x34, .nop83, .styZp 0x34, .staZp 0x34, .stxZp 0x34, .smb0 0x34,
        .dey, .bitImm 0x34, .txa, .nop8B, .styAbs 0x1234, .staAbs 0x1234, .stxAbs 0x1234, .bbs0 0x34 0x12] : List Instr).map
        fun i => some (i, []) := by decide

theorem test_decode_row_9 :
    [[0x90, 0x34], [0x91, 0x34], [0x92, 0x34], [0x93], [0x94, 0x34], [0x95, 0x34], [0x96, 0x34],
      [0x97, 0x34], [0x98], [0x99, 0x34, 0x12], [0x9A], [0x9B], [0x9C, 0x34, 0x12], [0x9D, 0x34, 0x12],
      [0x9E, 0x34, 0x12], [0x9F, 0x34, 0x12]].map (fun bs => (decode bs).toOption) =
      ([.bcc 0x34, .staZpIndY 0x34, .staZpInd 0x34, .nop93, .styZpX 0x34, .staZpX 0x34, .stxZpY 0x34,
        .smb1 0x34, .tya, .staAbsY 0x1234, .txs, .nop9B, .stzAbs 0x1234, .staAbsX 0x1234, .stzAbsX 0x1234,
        .bbs1 0x34 0x12] : List Instr).map
        fun i => some (i, []) := by decide

theorem test_decode_row_A :
    [[0xA0, 0x34], [0xA1, 0x34], [0xA2, 0x34], [0xA3], [0xA4, 0x34], [0xA5, 0x34], [0xA6, 0x34],
      [0xA7, 0x34], [0xA8], [0xA9, 0x34], [0xAA], [0xAB], [0xAC, 0x34, 0x12], [0xAD, 0x34, 0x12],
      [0xAE, 0x34, 0x12], [0xAF, 0x34, 0x12]].map (fun bs => (decode bs).toOption) =
      ([.ldyImm 0x34, .ldaZpXInd 0x34, .ldxImm 0x34, .nopA3, .ldyZp 0x34, .ldaZp 0x34, .ldxZp 0x34,
        .smb2 0x34, .tay, .ldaImm 0x34, .tax, .nopAB, .ldyAbs 0x1234, .ldaAbs 0x1234, .ldxAbs 0x1234,
        .bbs2 0x34 0x12] : List Instr).map
        fun i => some (i, []) := by decide

theorem test_decode_row_B :
    [[0xB0, 0x34], [0xB1, 0x34], [0xB2, 0x34], [0xB3], [0xB4, 0x34], [0xB5, 0x34], [0xB6, 0x34],
      [0xB7, 0x34], [0xB8], [0xB9, 0x34, 0x12], [0xBA], [0xBB], [0xBC, 0x34, 0x12], [0xBD, 0x34, 0x12],
      [0xBE, 0x34, 0x12], [0xBF, 0x34, 0x12]].map (fun bs => (decode bs).toOption) =
      ([.bcs 0x34, .ldaZpIndY 0x34, .ldaZpInd 0x34, .nopB3, .ldyZpX 0x34, .ldaZpX 0x34, .ldxZpY 0x34,
        .smb3 0x34, .clv, .ldaAbsY 0x1234, .tsx, .nopBB, .ldyAbsX 0x1234, .ldaAbsX 0x1234, .ldxAbsY 0x1234,
        .bbs3 0x34 0x12] : List Instr).map
        fun i => some (i, []) := by decide

theorem test_decode_row_C :
    [[0xC0, 0x34], [0xC1, 0x34], [0xC2, 0x34], [0xC3], [0xC4, 0x34], [0xC5, 0x34], [0xC6, 0x34],
      [0xC7, 0x34], [0xC8], [0xC9, 0x34], [0xCA], [0xCB], [0xCC, 0x34, 0x12], [0xCD, 0x34, 0x12],
      [0xCE, 0x34, 0x12], [0xCF, 0x34, 0x12]].map (fun bs => (decode bs).toOption) =
      ([.cpyImm 0x34, .cmpZpXInd 0x34, .nopC2 0x34, .nopC3, .cpyZp 0x34, .cmpZp 0x34, .decZp 0x34,
        .smb4 0x34, .iny, .cmpImm 0x34, .dex, .wai, .cpyAbs 0x1234, .cmpAbs 0x1234, .decAbs 0x1234,
        .bbs4 0x34 0x12] : List Instr).map
        fun i => some (i, []) := by decide

theorem test_decode_row_D :
    [[0xD0, 0x34], [0xD1, 0x34], [0xD2, 0x34], [0xD3], [0xD4, 0x34], [0xD5, 0x34], [0xD6, 0x34],
      [0xD7, 0x34], [0xD8], [0xD9, 0x34, 0x12], [0xDA], [0xDB], [0xDC, 0x34, 0x12], [0xDD, 0x34, 0x12],
      [0xDE, 0x34, 0x12], [0xDF, 0x34, 0x12]].map (fun bs => (decode bs).toOption) =
      ([.bne 0x34, .cmpZpIndY 0x34, .cmpZpInd 0x34, .nopD3, .nopD4 0x34, .cmpZpX 0x34, .decZpX 0x34,
        .smb5 0x34, .cld, .cmpAbsY 0x1234, .phx, .stp, .nopDC 0x1234, .cmpAbsX 0x1234, .decAbsX 0x1234,
        .bbs5 0x34 0x12] : List Instr).map
        fun i => some (i, []) := by decide

theorem test_decode_row_E :
    [[0xE0, 0x34], [0xE1, 0x34], [0xE2, 0x34], [0xE3], [0xE4, 0x34], [0xE5, 0x34], [0xE6, 0x34],
      [0xE7, 0x34], [0xE8], [0xE9, 0x34], [0xEA], [0xEB], [0xEC, 0x34, 0x12], [0xED, 0x34, 0x12],
      [0xEE, 0x34, 0x12], [0xEF, 0x34, 0x12]].map (fun bs => (decode bs).toOption) =
      ([.cpxImm 0x34, .sbcZpXInd 0x34, .nopE2 0x34, .nopE3, .cpxZp 0x34, .sbcZp 0x34, .incZp 0x34,
        .smb6 0x34, .inx, .sbcImm 0x34, .nop, .nopEB, .cpxAbs 0x1234, .sbcAbs 0x1234, .incAbs 0x1234,
        .bbs6 0x34 0x12] : List Instr).map
        fun i => some (i, []) := by decide

theorem test_decode_row_F :
    [[0xF0, 0x34], [0xF1, 0x34], [0xF2, 0x34], [0xF3], [0xF4, 0x34], [0xF5, 0x34], [0xF6, 0x34],
      [0xF7, 0x34], [0xF8], [0xF9, 0x34, 0x12], [0xFA], [0xFB], [0xFC, 0x34, 0x12], [0xFD, 0x34, 0x12],
      [0xFE, 0x34, 0x12], [0xFF, 0x34, 0x12]].map (fun bs => (decode bs).toOption) =
      ([.beq 0x34, .sbcZpIndY 0x34, .sbcZpInd 0x34, .nopF3, .nopF4 0x34, .sbcZpX 0x34, .incZpX 0x34,
        .smb7 0x34, .sed, .sbcAbsY 0x1234, .plx, .nopFB, .nopFC 0x1234, .sbcAbsX 0x1234, .incAbsX 0x1234,
        .bbs7 0x34 0x12] : List Instr).map
        fun i => some (i, []) := by decide

theorem test_decode_leaves_rest : decode [0xA9, 0x01, 0xEA] = .ok (.ldaImm 0x01, [0xEA]) := by rfl

theorem test_decode_refuses_missing_operand : decode [0x4C, 0x00] = .error (.missingOperand 0x4C) := by
  rfl

theorem test_decodeTableWord : decodeTableWord 24 0x1234AD = some (.ldaAbs 0x1234) := by decide

/-! ## One step each, from the vectors of 95_test_vectors -/

/-- The start state of the vectors: the ROM at 0xE000 holds the three vectors, SP is 0xFF. -/
def start : State :=
  { State.reset with
    cfg := platform bank, sp := 0xFF, mem := Memory.load [] 0xFFFA [0x00, 0xF1, 0x00, 0xE0, 0x00, 0xF0] }

/-- `s` with the bytes `bs` in memory at `a`. -/
def poke (s : State) (a : Nat) (bs : List Byte) : State := { s with mem := s.mem.load a bs }

/-- `s` with the flags of the byte `p`, PC at `pc` and the bytes `bs` there. -/
def code (s : State) (p : Byte) (pc : Word) (bs : List Byte) : State :=
  poke { s.setP p with pc := pc } pc.toNat bs

/-- The state after one step. -/
def ran (s : State) : State :=
  match step s with
  | .next t => t
  | _ => s

/-- AM-1: zp,X wraps in page 0 (R134). -/
theorem test_AM_1 :
    let t := ran (code (poke { start with x := 0x10 } 0x000F [0x77]) 0x24 0x0300 [0xB5, 0xFF])
    t.a = 0x77 ∧ t.pc = 0x0302 ∧ t.cycles = 4 := by decide

/-- AM-2: zp,Y wraps in page 0 (R135). -/
theorem test_AM_2 :
    let t := ran (code (poke { start with y := 0x02 } 0x0001 [0x42]) 0x24 0x0300 [0xB6, 0xFF])
    t.x = 0x42 ∧ t.cycles = 4 := by decide

/-- AM-3: (zp,X) pointer at 0xFF wraps to 0x00 (R136). -/
theorem test_AM_3 :
    let t := ran (code (poke (poke (poke { start with x := 0x00 } 0x00FF [0x34]) 0x0000 [0x12]) 0x1234
      [0x99]) 0x24 0x0300 [0xA1, 0xFF])
    t.a = 0x99 ∧ t.flagN = true ∧ t.cycles = 6 := by decide

/-- AM-10: JMP (abs) pointer at page end: no NMOS bug (R142). -/
theorem test_AM_10 :
    let t := ran (code (poke (poke (poke start 0x12FF [0x00]) 0x1300 [0x40]) 0x1200 [0x50]) 0x24 0x0300
      [0x6C, 0xFF, 0x12])
    t.pc = 0x4000 ∧ t.cycles = 6 := by decide

/-- AM-11: JMP (abs,X) (R143). -/
theorem test_AM_11 :
    let t := ran (code (poke { start with x := 0x04 } 0x2004 [0x78, 0x56]) 0x24 0x0300 [0x7C, 0x00, 0x20])
    t.pc = 0x5678 ∧ t.cycles = 6 := by decide

/-- AM-12: STA abs,X: no page penalty (R163). -/
theorem test_AM_12 :
    let t := ran (code { start with a := 0x11, x := 0x01 } 0x24 0x0300 [0x9D, 0xFF, 0x12])
    t.busValue 0x1300 = 0x11 ∧ t.cycles = 5 := by decide

/-- LS-3: LDX abs,Y cross (R161). -/
theorem test_LS_3 :
    let t := ran (code (poke { start with y := 0xFF } 0x21FE [0x01]) 0x24 0x0300 [0xBE, 0xFF, 0x20])
    t.x = 0x01 ∧ t.cycles = 5 := by decide

/-- LS-4: LDY zp,X (R162). -/
theorem test_LS_4 :
    let t := ran (code (poke { start with x := 0x01 } 0x0011 [0xFF]) 0x24 0x0300 [0xB4, 0x10])
    t.y = 0xFF ∧ t.flagN = true := by decide

/-- LS-5: STA (zp),Y (R163). -/
theorem test_LS_5 :
    let t := ran (code (poke { start with a := 0xAB, y := 0x05 } 0x0010 [0x00, 0x30]) 0x24 0x0300 [0x91, 0x10])
    t.busValue 0x3005 = 0xAB ∧ t.cycles = 6 := by decide

/-- LS-7: STX zp,Y (R164). -/
theorem test_LS_7 :
    let t := ran (code { start with x := 0x5A, y := 0x01 } 0x24 0x0300 [0x96, 0xFF])
    t.busValue 0x0000 = 0x5A := by decide

/-- LS-8: STY abs, flags unchanged (R165). -/
theorem test_LS_8 :
    let t := ran (code { start with y := 0x00 } 0x00 0x0300 [0x8C, 0x00, 0x20])
    t.busValue 0x2000 = 0x00 ∧ t.flagZ = false := by decide

/-- LS-9: STZ abs,X (R166). -/
theorem test_LS_9 :
    let t := ran (code (poke { start with x := 0x02 } 0x2002 [0xFF]) 0x24 0x0300 [0x9E, 0x00, 0x20])
    t.busValue 0x2002 = 0x00 ∧ t.cycles = 5 := by decide

/-- LS-10: TAX sets N (R167). -/
theorem test_LS_10 :
    let t := ran (code { start with a := 0x90 } 0x24 0x0300 [0xAA])
    t.x = 0x90 ∧ t.flagN = true ∧ t.flagZ = false := by decide

/-- LS-11: TAY zero (R168). -/
theorem test_LS_11 :
    let t := ran (code { start with a := 0x00 } 0x24 0x0300 [0xA8])
    t.y = 0x00 ∧ t.flagZ = true := by decide

/-- LS-12: TXA (R169). -/
theorem test_LS_12 :
    let t := ran (code { start with x := 0x7F } 0x24 0x0300 [0x8A])
    t.a = 0x7F ∧ t.flagN = false := by decide

/-- LS-13: TYA (R170). -/
theorem test_LS_13 :
    let t := ran (code { start with y := 0xFF } 0x24 0x0300 [0x98])
    t.a = 0xFF ∧ t.flagN = true := by decide

/-- LS-14: TSX (R171). -/
theorem test_LS_14 :
    let t := ran (code { start with sp := 0x00 } 0x24 0x0300 [0xBA])
    t.x = 0x00 ∧ t.flagZ = true := by decide

/-- LS-15: TXS leaves flags (R172). -/
theorem test_LS_15 :
    let t := ran (code { start with x := 0x00 } 0x00 0x0300 [0x9A])
    t.sp = 0x00 ∧ t.flagZ = false := by decide

/-- LS-16: PHA (R173). -/
theorem test_LS_16 :
    let t := ran (code { start with a := 0x12, sp := 0xFF } 0x24 0x0300 [0x48])
    t.busValue 0x01FF = 0x12 ∧ t.sp = 0xFE ∧ t.cycles = 3 := by decide

/-- LS-17: PHA at SP = 0x00 wraps (R173). -/
theorem test_LS_17 :
    let t := ran (code { start with a := 0x34, sp := 0x00 } 0x24 0x0300 [0x48])
    t.busValue 0x0100 = 0x34 ∧ t.sp = 0xFF := by decide

/-- LS-18: PHP pushes B = 1, bit 5 = 1 (R174). -/
theorem test_LS_18 :
    let t := ran (code start 0xC3 0x0300 [0x08])
    t.busValue 0x01FF = 0xF3 ∧ t.sp = 0xFE := by decide

/-- LS-19: PHX (R175). -/
theorem test_LS_19 :
    let t := ran (code { start with x := 0x99 } 0x24 0x0300 [0xDA])
    t.busValue 0x01FF = 0x99 := by decide

/-- LS-20: PHY (R176). -/
theorem test_LS_20 :
    let t := ran (code { start with y := 0x98 } 0x24 0x0300 [0x5A])
    t.busValue 0x01FF = 0x98 := by decide

/-- LS-21: PLA sets Z (R177). -/
theorem test_LS_21 :
    let t := ran (code (poke { start with a := 0x55, sp := 0xFE } 0x01FF [0x00]) 0x24 0x0300 [0x68])
    t.a = 0x00 ∧ t.flagZ = true ∧ t.sp = 0xFF ∧ t.cycles = 4 := by decide

/-- LS-22: PLP ignores bits 5 and 4 (R178). -/
theorem test_LS_22 :
    let t := ran (code (poke { start with sp := 0xFE } 0x01FF [0xFF]) 0x24 0x0300 [0x28])
    t.flagN = true ∧ t.flagV = true ∧ t.flagD = true ∧ t.flagI = true ∧ t.flagZ = true ∧ t.flagC = true ∧
      t.pByte false = 0xEF := by decide

/-- LS-24: PLX wraps SP 0xFF to 0x00 (R179). -/
theorem test_LS_24 :
    let t := ran (code (poke { start with sp := 0xFF } 0x0100 [0x80]) 0x24 0x0300 [0xFA])
    t.x = 0x80 ∧ t.flagN = true ∧ t.sp = 0x00 := by decide

/-- LS-25: PLY (R180). -/
theorem test_LS_25 :
    let t := ran (code (poke { start with sp := 0xFE } 0x01FF [0x01]) 0x24 0x0300 [0x7A])
    t.y = 0x01 ∧ t.flagN = false ∧ t.flagZ = false := by decide

/-- AR-1: ADC binary, carry out, zero (R202). -/
theorem test_AR_1 :
    let t := ran (code { start with a := 0xFF } 0x01 0x0300 [0x69, 0x00])
    t.a = 0x00 ∧ t.flagC = true ∧ t.flagZ = true ∧ t.flagV = false ∧ t.flagN = false ∧ t.cycles = 2 := by decide

/-- AR-2: ADC binary signed overflow (R202). -/
theorem test_AR_2 :
    let t := ran (code { start with a := 0x7F } 0x00 0x0300 [0x69, 0x01])
    t.a = 0x80 ∧ t.flagV = true ∧ t.flagN = true ∧ t.flagC = false := by decide

/-- AR-10: SBC binary 0x50-0xF0 (R206). -/
theorem test_AR_10 :
    let t := ran (code { start with a := 0x50 } 0x01 0x0300 [0xE9, 0xF0])
    t.a = 0x60 ∧ t.flagC = false ∧ t.flagV = false ∧ t.flagN = false := by decide

/-- AR-11: SBC binary 0-1 borrow (R207). -/
theorem test_AR_11 :
    let t := ran (code { start with a := 0x00 } 0x01 0x0300 [0xE9, 0x01])
    t.a = 0xFF ∧ t.flagC = false ∧ t.flagN = true ∧ t.flagV = false := by decide

/-- AR-19: CMP equal (R210). -/
theorem test_AR_19 :
    let t := ran (code { start with a := 0x41 } 0x24 0x0300 [0xC9, 0x41])
    t.flagZ = true ∧ t.flagC = true ∧ t.flagN = false := by decide

/-- AR-22: CPX immediate (R211). -/
theorem test_AR_22 :
    let t := ran (code { start with x := 0x10 } 0x24 0x0300 [0xE0, 0x20])
    t.flagC = false ∧ t.flagZ = false ∧ t.flagN = true := by decide

/-- AR-23: CPY zp (R212). -/
theorem test_AR_23 :
    let t := ran (code (poke { start with y := 0x20 } 0x0005 [0x10]) 0x24 0x0300 [0xC4, 0x05])
    t.flagC = true ∧ t.flagZ = false ∧ t.flagN = false ∧ t.cycles = 3 := by decide

/-- AR-24: INC A wraps (R213). -/
theorem test_AR_24 :
    let t := ran (code { start with a := 0xFF } 0x24 0x0300 [0x1A])
    t.a = 0x00 ∧ t.flagZ = true ∧ t.cycles = 2 := by decide

/-- AR-25: INC abs,X: 7 cycles, no cross penalty (R213). -/
theorem test_AR_25 :
    let t := ran (code (poke { start with x := 0x01 } 0x1300 [0x7F]) 0x24 0x0300 [0xFE, 0xFF, 0x12])
    t.busValue 0x1300 = 0x80 ∧ t.flagN = true ∧ t.cycles = 7 := by decide

/-- AR-26: DEC zp to zero (R214). -/
theorem test_AR_26 :
    let t := ran (code (poke start 0x0010 [0x01]) 0x24 0x0300 [0xC6, 0x10])
    t.busValue 0x0010 = 0x00 ∧ t.flagZ = true ∧ t.cycles = 5 := by decide

/-- AR-27: DEC A wraps (R214). -/
theorem test_AR_27 :
    let t := ran (code { start with a := 0x00 } 0x24 0x0300 [0x3A])
    t.a = 0xFF ∧ t.flagN = true := by decide

/-- AR-28: INX wraps (R215). -/
theorem test_AR_28 :
    let t := ran (code { start with x := 0xFF } 0x24 0x0300 [0xE8])
    t.x = 0x00 ∧ t.flagZ = true := by decide

/-- AR-29: INY (R216). -/
theorem test_AR_29 :
    let t := ran (code { start with y := 0x7F } 0x24 0x0300 [0xC8])
    t.y = 0x80 ∧ t.flagN = true := by decide

/-- AR-30: DEX wraps (R217). -/
theorem test_AR_30 :
    let t := ran (code { start with x := 0x00 } 0x24 0x0300 [0xCA])
    t.x = 0xFF ∧ t.flagN = true := by decide

/-- AR-31: DEY to zero (R218). -/
theorem test_AR_31 :
    let t := ran (code { start with y := 0x01 } 0x24 0x0300 [0x88])
    t.y = 0x00 ∧ t.flagZ = true := by decide

/-- LB-1: AND immediate (R240). -/
theorem test_LB_1 :
    let t := ran (code { start with a := 0xF0 } 0x24 0x0300 [0x29, 0x3C])
    t.a = 0x30 ∧ t.flagN = false ∧ t.flagZ = false := by decide

/-- LB-2: AND immediate zero (R240). -/
theorem test_LB_2 :
    let t := ran (code { start with a := 0xF0 } 0x24 0x0300 [0x29, 0x0F])
    t.a = 0x00 ∧ t.flagZ = true := by decide

/-- LB-3: ORA (zp) (R241). -/
theorem test_LB_3 :
    let t := ran (code (poke (poke { start with a := 0x01 } 0x0030 [0x00, 0x20]) 0x2000 [0x80]) 0x24 0x0300
      [0x12, 0x30])
    t.a = 0x81 ∧ t.flagN = true ∧ t.cycles = 5 := by decide

/-- LB-4: EOR immediate NOT (R242). -/
theorem test_LB_4 :
    let t := ran (code { start with a := 0x55 } 0x24 0x0300 [0x49, 0xFF])
    t.a = 0xAA ∧ t.flagN = true := by decide

/-- LB-5: BIT zp copies bits 7, 6 (R243). -/
theorem test_LB_5 :
    let t := ran (code (poke { start with a := 0x01 } 0x0020 [0xC0]) 0x24 0x0300 [0x24, 0x20])
    t.flagZ = true ∧ t.flagN = true ∧ t.flagV = true := by decide

/-- LB-6: BIT immediate sets Z only (R243). -/
theorem test_LB_6 :
    let t := ran (code { start with a := 0x01 } 0xC0 0x0300 [0x89, 0x02])
    t.flagZ = true ∧ t.flagN = true ∧ t.flagV = true ∧ t.a = 0x01 := by decide

/-- LB-8: TSB zp (R244). -/
theorem test_LB_8 :
    let t := ran (code (poke { start with a := 0x0F } 0x0030 [0xF0]) 0x24 0x0300 [0x04, 0x30])
    t.busValue 0x0030 = 0xFF ∧ t.flagZ = true ∧ t.cycles = 5 := by decide

/-- LB-9: TRB abs (R245). -/
theorem test_LB_9 :
    let t := ran (code (poke { start with a := 0x81 } 0x2000 [0xFF]) 0x24 0x0300 [0x1C, 0x00, 0x20])
    t.busValue 0x2000 = 0x7E ∧ t.flagZ = false ∧ t.cycles = 6 := by decide

/-- LB-10: ASL A (R246). -/
theorem test_LB_10 :
    let t := ran (code { start with a := 0x81 } 0x24 0x0300 [0x0A])
    t.a = 0x02 ∧ t.flagC = true ∧ t.flagN = false ∧ t.flagZ = false := by decide

/-- LB-11: ASL zp 0x80 (R246). -/
theorem test_LB_11 :
    let t := ran (code (poke start 0x0010 [0x80]) 0x24 0x0300 [0x06, 0x10])
    t.busValue 0x0010 = 0x00 ∧ t.flagC = true ∧ t.flagZ = true := by decide

/-- LB-13: LSR A (R247). -/
theorem test_LB_13 :
    let t := ran (code { start with a := 0x01 } 0x24 0x0300 [0x4A])
    t.a = 0x00 ∧ t.flagC = true ∧ t.flagZ = true ∧ t.flagN = false := by decide

/-- LB-14: ROL A through carry (R248). -/
theorem test_LB_14 :
    let t := ran (code { start with a := 0x40 } 0x01 0x0300 [0x2A])
    t.a = 0x81 ∧ t.flagC = false ∧ t.flagN = true := by decide

/-- LB-15: ROL 0x80, C = 0 (R248). -/
theorem test_LB_15 :
    let t := ran (code { start with a := 0x80 } 0x00 0x0300 [0x2A])
    t.a = 0x00 ∧ t.flagC = true ∧ t.flagZ = true := by decide

/-- LB-16: ROR A (R249). -/
theorem test_LB_16 :
    let t := ran (code { start with a := 0x02 } 0x01 0x0300 [0x6A])
    t.a = 0x81 ∧ t.flagC = false ∧ t.flagN = true := by decide

/-- LB-17: ROR zp,X (R249). -/
theorem test_LB_17 :
    let t := ran (code (poke { start with x := 0x01 } 0x0011 [0x01]) 0x00 0x0300 [0x76, 0x10])
    t.busValue 0x0011 = 0x00 ∧ t.flagC = true ∧ t.flagZ = true ∧ t.cycles = 6 := by decide

/-- LB-18: RMB3 (R250). -/
theorem test_LB_18 :
    let t := ran (code (poke start 0x0040 [0xFF]) 0x24 0x0300 [0x37, 0x40])
    t.busValue 0x0040 = 0xF7 ∧ t.cycles = 5 := by decide

/-- LB-19: SMB7 (R251). -/
theorem test_LB_19 :
    let t := ran (code (poke start 0x0040 [0x00]) 0x24 0x0300 [0xF7, 0x40])
    t.busValue 0x0040 = 0x80 := by decide

/-- LB-20: RMB0 on a 0 bit still writes (R250). -/
theorem test_LB_20 :
    let t := ran (code (poke start 0x0041 [0xFE]) 0x24 0x0300 [0x07, 0x41])
    t.busValue 0x0041 = 0xFE := by decide

/-- CT-1: BPL taken, same page (R281). -/
theorem test_CT_1 :
    let t := ran (code start 0x00 0x0300 [0x10, 0x04])
    t.pc = 0x0306 ∧ t.cycles = 3 := by decide

/-- CT-2: BMI not taken (R282). -/
theorem test_CT_2 :
    let t := ran (code start 0x00 0x0300 [0x30, 0xFE])
    t.pc = 0x0302 ∧ t.cycles = 2 := by decide

/-- CT-3: BVC taken (R283). -/
theorem test_CT_3 :
    let t := ran (code start 0x00 0x0300 [0x50, 0x10])
    t.pc = 0x0312 := by decide

/-- CT-4: BVS taken, backward, page crossed (R284). -/
theorem test_CT_4 :
    let t := ran (code start 0x40 0x0300 [0x70, 0x80])
    t.pc = 0x0282 ∧ t.cycles = 4 := by decide

/-- CT-5: BCC not taken (R285). -/
theorem test_CT_5 :
    let t := ran (code start 0x01 0x0300 [0x90, 0x05])
    t.pc = 0x0302 ∧ t.cycles = 2 := by decide

/-- CT-6: BCS taken, crossed (R286). -/
theorem test_CT_6 :
    let t := ran (code start 0x01 0x02FC [0xB0, 0x05])
    t.pc = 0x0303 ∧ t.cycles = 4 := by decide

/-- CT-7: BNE back (R287). -/
theorem test_CT_7 :
    let t := ran (code start 0x00 0x0310 [0xD0, 0xFC])
    t.pc = 0x030E := by decide

/-- CT-8: BEQ taken, d = 0 (R288). -/
theorem test_CT_8 :
    let t := ran (code start 0x02 0x0300 [0xF0, 0x00])
    t.pc = 0x0302 ∧ t.cycles = 3 := by decide

/-- CT-9: BRA to self (R289). -/
theorem test_CT_9 :
    let t := ran (code start 0x24 0x0400 [0x80, 0xFE])
    t.pc = 0x0400 ∧ t.cycles = 3 := by decide

/-- CT-11: BBR0 taken (R290). -/
theorem test_CT_11 :
    let t := ran (code (poke start 0x0050 [0xFE]) 0x24 0x0300 [0x0F, 0x50, 0x03])
    t.pc = 0x0306 ∧ t.cycles = 6 := by decide

/-- CT-12: BBR0 not taken (R290). -/
theorem test_CT_12 :
    let t := ran (code (poke start 0x0050 [0x01]) 0x24 0x0300 [0x0F, 0x50, 0x03])
    t.pc = 0x0303 ∧ t.cycles = 5 := by decide

/-- CT-13: BBS7 loop to self (R291). -/
theorem test_CT_13 :
    let t := ran (code (poke start 0x0050 [0x80]) 0x24 0x0300 [0xFF, 0x50, 0xFD])
    t.pc = 0x0300 ∧ t.cycles = 6 := by decide

/-- CT-16: JSR pushes last-byte address (R294). -/
theorem test_CT_16 :
    let t := ran (code { start with sp := 0xFF } 0x24 0x0300 [0x20, 0x34, 0x12])
    t.busValue 0x01FF = 0x03 ∧ t.busValue 0x01FE = 0x02 ∧ t.sp = 0xFD ∧ t.pc = 0x1234 ∧ t.cycles = 6 := by
      decide

/-- CT-17: RTS adds 1 (R295). -/
theorem test_CT_17 :
    let t := ran (code (poke { start with sp := 0xFD } 0x01FE [0x02, 0x03]) 0x24 0x0300 [0x60])
    t.pc = 0x0303 ∧ t.sp = 0xFF ∧ t.cycles = 6 := by decide

/-- CT-19: BRK (R296). -/
theorem test_CT_19 :
    let t := ran (code { start with sp := 0xFF } 0x09 0x0400 [0x00, 0xEE])
    t.busValue 0x01FF = 0x04 ∧ t.busValue 0x01FE = 0x02 ∧ t.busValue 0x01FD = 0x39 ∧ t.sp = 0xFC ∧ t.flagI =
      true ∧ t.flagD = false ∧ t.pc = 0xF000 ∧ t.cycles = 7 := by decide

/-- CT-20: RTI no +1 (R297). -/
theorem test_CT_20 :
    let t := ran (code (poke { start with sp := 0xFC } 0x01FD [0x39, 0x02, 0x04]) 0x24 0x0300 [0x40])
    t.pByte false = 0x29 ∧ t.pc = 0x0402 ∧ t.sp = 0xFF ∧ t.cycles = 6 := by decide

/-- SY-1: CLC (R320). -/
theorem test_SY_1 :
    let t := ran (code start 0x01 0x0300 [0x18])
    t.flagC = false ∧ t.cycles = 2 := by decide

/-- SY-2: SEC (R321). -/
theorem test_SY_2 :
    let t := ran (code start 0x00 0x0300 [0x38])
    t.flagC = true := by decide

/-- SY-3: CLI (R322). -/
theorem test_SY_3 :
    let t := ran (code start 0x04 0x0300 [0x58])
    t.flagI = false := by decide

/-- SY-4: SEI (R323). -/
theorem test_SY_4 :
    let t := ran (code start 0x00 0x0300 [0x78])
    t.flagI = true := by decide

/-- SY-5: CLD (R324). -/
theorem test_SY_5 :
    let t := ran (code start 0x08 0x0300 [0xD8])
    t.flagD = false := by decide

/-- SY-6: SED (R325). -/
theorem test_SY_6 :
    let t := ran (code start 0x00 0x0300 [0xF8])
    t.flagD = true := by decide

/-- SY-7: CLV (R326). -/
theorem test_SY_7 :
    let t := ran (code start 0x40 0x0300 [0xB8])
    t.flagV = false := by decide

/-- SY-8: NOP (R327). -/
theorem test_SY_8 :
    let t := ran (code start 0x24 0x0300 [0xEA])
    t.pc = 0x0301 ∧ t.cycles = 2 := by decide

/-- SY-9: undefined 1-byte 0x03 (R330). -/
theorem test_SY_9 :
    let t := ran (code start 0x24 0x0300 [0x03])
    t.pc = 0x0301 ∧ t.cycles = 1 := by decide

/-- SY-10: undefined 0x02 is 2 bytes (R330). -/
theorem test_SY_10 :
    let t := ran (code start 0x24 0x0300 [0x02, 0xFF])
    t.pc = 0x0302 ∧ t.cycles = 2 := by decide

/-- SY-14: WAI (R331). -/
theorem test_SY_14 :
    let t := ran (code start 0x24 0x0300 [0xCB])
    t.run = .waiting ∧ t.pc = 0x0301 ∧ t.cycles = 3 := by decide

/-- SY-15: STP (R332). -/
theorem test_SY_15 :
    let t := ran (code start 0x24 0x0300 [0xDB])
    t.run = .stopped ∧ t.pc = 0x0301 ∧ t.cycles = 3 := by decide

/-! ## Interrupts, reset, peripherals, frames, startup: the sequences of 95_test_vectors -/

/-- A NOP at 0x0300 with the flags of `p` and the host's two inputs. -/
def atNop (p : Byte) (nmi irq : Bool) : State :=
  { code start p 0x0300 [0xEA] with nmiLatch := nmi, irqLine := irq }

/-- IN-1: interrupt entry, no instruction executed. -/
theorem test_IN_1 :
    let t := ran (atNop 0x00 false true)
    t.mem.read 0x01FF = 0x03 ∧ t.mem.read 0x01FE = 0x00 ∧ t.mem.read 0x01FD = 0x20 ∧ t.sp = 0xFC ∧
      t.flagI = true ∧ t.flagD = false ∧ t.pc = 0xF000 ∧ t.cycles = 7 := by decide

/-- IN-2: a masked IRQ. -/
theorem test_IN_2 :
    let t := ran (atNop 0x04 false true)
    t.pc = 0x0301 ∧ t.cycles = 2 ∧ t.sp = 0xFF := by decide

/-- IN-3: NMI is taken before IRQ. -/
theorem test_IN_3 :
    let t := ran (atNop 0x08 true true)
    t.pc = 0xF100 ∧ t.nmiLatch = false ∧ t.mem.read 0x01FD = 0x28 ∧ t.flagI = true ∧ t.flagD = false ∧
      t.cycles = 7 := by decide

/-- IN-4: a held NMI line latches once. -/
theorem test_IN_4 :
    let t := ran (((code start 0x24 0x0300 [0xEA]).setNmi true).setNmi true)
    t.pc = 0xF100 ∧ (t.setNmi true).nmiLatch = false ∧
      (((t.setNmi true).setNmi false).setNmi true).nmiLatch = true := by decide

/-- IN-5: a masked IRQ wakes the CPU without service. -/
theorem test_IN_5 :
    let t := ran { atNop 0x04 false true with run := .waiting }
    t.pc = 0x0301 ∧ t.run = .running ∧ t.cycles = 2 ∧ t.sp = 0xFF := by decide

/-- IN-6: an idle tick. -/
theorem test_IN_6 :
    let t := ran { atNop 0x04 false false with run := .waiting }
    t.pc = 0x0300 ∧ t.run = .waiting ∧ t.cycles = 1 := by decide

/-- IN-7: a stopped CPU does not serve an NMI. -/
theorem test_IN_7 :
    let t := ran { atNop 0x04 true false with run := .stopped }
    t.pc = 0x0300 ∧ t.run = .stopped ∧ t.cycles = 1 ∧ t.nmiLatch = true := by decide

/-- EX-3a: reset. -/
theorem test_EX_3a :
    let t := ({ start.setP 0x08 with sp := 0x40, run := .stopped, nmiLatch := true } : State).hostAction .reset
    t.pc = 0xE000 ∧ t.flagI = true ∧ t.flagD = true ∧ t.sp = 0x3D ∧ t.run = .running ∧ t.nmiLatch = false ∧
      t.mem = start.mem := by decide

/-- R41, R400: reset leaves the UART queue alone, also where DATA lies at the RESET vector (log 21). -/
theorem test_reset_keeps_queue :
    let c : Config := { Config.testMap with
      regions := [⟨0xFFFC, 0xFFFD, .uart⟩], uartDataAddr := 0xFFFC, uartStatusAddr := 0xFFFD }
    let t := ({ start with cfg := c, uartQueue := [0x41, 0x42] } : State).hostAction .reset
    t.uartQueue = [0x41, 0x42] ∧ t.pc = 0x0141 := by decide

/-- FR-1: the seventh cycle completes a frame. -/
theorem test_FR_1 :
    let t := ({ start with frameCycles := 16660, videoBuf := [(0, 0x55)] } : State).frameTick 7
    t.videoGen = 1 ∧ t.frameCycles = 0 ∧ t.videoSnapshot = [(0, 0x55)] := by decide

/-- KB-1, KB-3: only the selected row shows. -/
theorem test_KB_1 :
    let t := start.keyEvent 2 5 true
    (t.write8 0xD010 0x02).busValue 0xD011 = 0x20 ∧ (t.write8 0xD010 0x0A).busValue 0xD011 = 0x20 ∧
      (t.write8 0xD010 0x03).busValue 0xD011 = 0x00 := by decide

/-- UART-1, UART-3, UART-4, UART-5: newline normalization. -/
theorem test_UART_1 :
    normalizeNewlines [0x41, 0x42, 0x0D, 0x0A, 0x43, 0x44] = [0x41, 0x42, 0x0A, 0x43, 0x44] ∧
      normalizeNewlines [0x0D, 0x0D, 0x0A] = [0x0A, 0x0A] ∧ normalizeNewlines [0x0A, 0x0D] = [0x0A, 0x0A] ∧
      normalizeNewlines [0x0D] = [0x0A] := by decide

/-- UART-6, in small: what is past the capacity is lost and leaves Overrun. -/
theorem test_UART_6 :
    let c := { Config.testMap with uartCapacity := 2 }
    let t := powerOnState c PowerOn.zero [] [0x00, 0x01, 0x02]
    t.uartQueue = [0x00, 0x01] ∧ t.uartOverrun = true ∧ t.uartStatus = 0x03 := by decide

/-- BK-1, BK-2: the bank register modulo the count, the window, and a window write. -/
theorem test_BK_1 :
    let t := start.write8 0xD020 0x05
    t.bankSel = 1 ∧ t.busValue 0xD100 = 0x11 ∧ (t.write8 0xD100 0x77).busValue 0xD100 = 0x11 ∧
      t.busValue 0xD020 = 0x01 := by decide

/-- The outcome of a startup on `c` with the entry binary `entry` and the cartridge `cart`. -/
def started (c : Config) (entry : Option (List Byte)) (cart : Option Cartridge) (r : CartResult) :
    Except StartupError State :=
  startup (fun _ => r) ⟨c, entry, cart, some [], PowerOn.zero⟩

/-- ST-1, and an image that runs past 0xFFFF as in ST-2, and one over the UART as in ST-3. -/
theorem test_ST_1 :
    started Config.testMap (some []) (some ⟨true, some []⟩) .bad = .error .formatError ∧
      started { Config.testMap with loadAddr := 0xFFFF } (some [1, 2]) none .bad = .error .configError ∧
      started { Config.testMap with loadAddr := 0xCFFF } (some [1, 2]) none .bad = .error .configError := by
  refine ⟨rfl, rfl, rfl⟩

/-- ST-5, ST-6: an external override wins over the header's vector. -/
theorem test_ST_5 :
    effectiveOverride (some 0x9000) (some 0x8000) = some (0x9000 : Word) ∧
      effectiveOverride none (some 0x8000) = some (0x8000 : Word) := by decide

/-- The memory after reset is in canonical form. -/
theorem test_reset_memory_wf : State.reset.mem.wf = true ∧ State.reset.videoBuf.wf = true := by decide

/-- The word placed by `withFetchWord` is the first instruction that `step` runs. -/
theorem test_withFetchWord : (ran (State.reset.withFetchWord 16 0x7FA9)).a = 0x7F := by decide

/-! ## Witnesses: concrete states and operands that meet the hypotheses of the statements -/

theorem witness_DecodeOfEncodeIsTheInstruction : (Instr.jmpAbs 0xFFFF).wellFormed = true := by decide

theorem witness_EncodeOfDecodeIsTheBytes : decode [0x4C, 0xFF, 0xFF, 0x00] = .ok (.jmpAbs 0xFFFF, [0x00]) := by
  rfl

theorem witness_DecoderIsTotalOnOpcodes :
    opcodeLength 0x20 ≤ [0x00, (0x00 : Byte)].length + 1 ∧ [(0x00 : Byte)].length + 1 < opcodeLength 0x20 := by
  decide

/-- A NOP at 0x0300. -/
def nopState : State := code start 0x24 0x0300 [0xEA]

theorem witness_StepRunsTheDecodedInstruction :
    nopState.run = .running ∧ nopState.nmiLatch = false ∧ (nopState.irqLine && !nopState.flagI) = false ∧
      decode nopState.fetchedBytes = .ok (.nop, [0x00, 0x00]) := by
  refine ⟨?_, ?_, ?_, ?_⟩ <;> rfl

/-- PC at the last place from which three bytes of RAM can be read. -/
def edgeState (op : Byte) : State := code start 0x24 0xBFFD [op, 0x34, 0x12]

theorem witness_FetchSeesMemory_plain :
    (∀ k : Nat, k < 3 → (edgeState 0xAD).regionAt ((edgeState 0xAD).pc + BitVec.ofNat 16 k) = some .ram ∨
      (edgeState 0xAD).regionAt ((edgeState 0xAD).pc + BitVec.ofNat 16 k) = some .rom) ∧
    (edgeState 0xAD).mem.read (edgeState 0xAD).pc.toNat ≠ 0x20 := by decide

theorem witness_FetchSeesMemory_jsr :
    (∀ k : Nat, k < 3 → (edgeState 0x20).regionAt ((edgeState 0x20).pc + BitVec.ofNat 16 k) = some .ram ∨
      (edgeState 0x20).regionAt ((edgeState 0x20).pc + BitVec.ofNat 16 k) = some .rom) ∧
    (edgeState 0x20).mem.read (edgeState 0x20).pc.toNat = 0x20 := by decide

theorem witness_CyclesFollowTheTable :
    ¬ (mnemonicOf (.ldaAbsX 0x12FF) ∈ [.bpl, .bmi, .bvc, .bvs, .bcc, .bcs, .bne, .beq, .bra] ∨
      ∃ n, mnemonicOf (.ldaAbsX 0x12FF) = .bbr n ∨ mnemonicOf (.ldaAbsX 0x12FF) = .bbs n) ∧
    modeOf (.ldaAbsX 0x12FF) = some (.absX 0x12FF) ∧
    ¬ (mnemonicOf .nop ∈ [.bpl, .bmi, .bvc, .bvs, .bcc, .bcs, .bne, .beq, .bra] ∨
      ∃ n, mnemonicOf .nop = .bbr n ∨ mnemonicOf .nop = .bbs n) ∧
    modeOf .nop = none := by decide

theorem start_inv : Inv start where
  platform := by decide
  memCanonical := by decide
  videoCanonical := by decide
  snapshotCanonical := by decide
  videoBounded := by intro c hc; cases hc
  snapshotBounded := by intro c hc; cases hc
  queueBounded := by decide
  bankExists := by intro b hb; cases hb; decide
  frameOpen := by decide

theorem nopState_inv : Inv nopState where
  platform := by decide
  memCanonical := by decide
  videoCanonical := by decide
  snapshotCanonical := by decide
  videoBounded := by intro c hc; cases hc
  snapshotBounded := by intro c hc; cases hc
  queueBounded := by decide
  bankExists := by intro b hb; cases hb; decide
  frameOpen := by decide

theorem witness_StepKeepsInvariant : ∃ t, Inv nopState ∧ step nopState = .next t := ⟨_, nopState_inv, rfl⟩

theorem witness_HostActionsKeepInvariant : Inv nopState := nopState_inv

theorem witness_StartupGivesInvariant :
    ∃ s, started Config.testMap (some []) none .bad = .ok s ∧ s.cfg.wellFormed = true ∧
      PowerOn.zero.ram.wf = true ∧ PowerOn.zero.video.wf = true ∧ memoryBelow PowerOn.zero.video 4096 :=
  ⟨_, rfl, by decide, by decide, by decide, by intro c hc; cases hc⟩

theorem witness_RomNeverChanges :
    ∃ t, drive [[.keyEvent 2 5 true], [.setNmi true]] (code start 0x24 0x0300 [0x8D, 0x00, 0xE0]) = .next t ∧
      (code start 0x24 0x0300 [0x8D, 0x00, 0xE0]).regionAt 0xE000 = some .rom := ⟨_, rfl, by decide⟩

theorem witness_WriteChangesOnlyItsByte :
    Inv nopState ∧ nopState.regionAt 0xD800 = none ∧ nopState.regionAt 0x0000 = some .ram ∧
      nopState.regionAt 0xCFFF = some .video ∧ (0x0001 : Word) ≠ 0x0000 ∧
      ¬ ((0x0000 : Word) = nopState.cfg.kbdRowAddr ∧ (0x0001 : Word) = nopState.cfg.kbdColAddr) ∧
      ¬ (nopState.regionAt 0x0000 = some .bankReg ∧ nopState.regionAt 0x0001 = some .bankWindow) :=
  ⟨nopState_inv, by decide⟩

theorem witness_FramesNeverReachTheCpu :
    ∃ t t', nopState.cpuView = ({ nopState with videoGen := 7, frameCycles := 16666 } : State).cpuView ∧
      drive [[.setIrq true]] nopState = .next t ∧
      drive [[.setIrq true]] { nopState with videoGen := 7, frameCycles := 16666 } = .next t' :=
  ⟨_, _, rfl, rfl, rfl⟩

theorem witness_FlagsChangeOnlyByTheirInstructions :
    (∃ t, exec .sed start = .next t ∧ t.flagD ≠ start.flagD) ∧
    (∃ t, exec .cli start = .next t ∧ t.flagI ≠ start.flagI) ∧
    (∃ t, exec (.bitZp 0x00) (poke start 0 [0x40]) = .next t ∧ t.flagV ≠ (poke start 0 [0x40]).flagV) ∧
    (∃ t, exec .sec start = .next t ∧ t.flagC ≠ start.flagC) ∧
    (∃ t, exec .wai start = .next t ∧ t.run ≠ start.run) :=
  ⟨⟨_, rfl, by decide⟩, ⟨_, rfl, by decide⟩, ⟨_, rfl, by decide⟩, ⟨_, rfl, by decide⟩, ⟨_, rfl, by decide⟩⟩

theorem witness_RegistersChangeOnlyByTheirInstructions :
    (∃ t, exec (.ldaImm 0x01) start = .next t ∧ t.a ≠ start.a) ∧
    (∃ t, exec .incAcc start = .next t ∧ t.a ≠ start.a) ∧
    (∃ t, exec .inx start = .next t ∧ t.x ≠ start.x) ∧
    (∃ t, exec .dey start = .next t ∧ t.y ≠ start.y) ∧
    (∃ t, exec .pha start = .next t ∧ t.sp ≠ start.sp) :=
  ⟨⟨_, rfl, by decide⟩, ⟨_, rfl, by decide⟩, ⟨_, rfl, by decide⟩, ⟨_, rfl, by decide⟩, ⟨_, rfl, by decide⟩⟩

/-- A stopped CPU has the invariant. -/
theorem witness_StoppedMachineOnlyIdles : ({ start with run := .stopped } : State).run = .stopped ∧
    Inv { start with run := .stopped } :=
  ⟨rfl, { start_inv with }⟩

theorem witness_WaitingIdlesOrWakes :
    let idle : State := { start with run := .waiting }
    let masked : State := { start with run := .waiting, irqLine := true }
    (idle.run = .waiting ∧ (idle.nmiLatch || idle.irqLine) = false) ∧
    (masked.run = .waiting ∧ (masked.nmiLatch || masked.irqLine) = true) ∧
    (masked.nmiLatch = false ∧ masked.irqLine = true ∧ masked.flagI = true) := by decide

/-- Every byte of page 1 is RAM on the platform of the tests. -/
theorem start_stackIsRam : start.stackIsRam := by
  intro p
  show lookupRegion (platform bank).regions (stackAddr p) = some .ram
  have h : (stackAddr p).toNat ≤ 0xBFFF := by
    have := p.isLt
    simp only [stackAddr, zext16, BitVec.toNat_add, BitVec.toNat_setWidth, BitVec.toNat_ofNat]
    omega
  simp [lookupRegion, platform, Config.testMap, regionHas, h]

theorem witness_InterruptEntry :
    ((atNop 0x00 true true).run = .running ∧ (atNop 0x00 true true).nmiLatch = true) ∧
    ((atNop 0x00 false true).run = .running ∧ (atNop 0x00 false true).nmiLatch = false ∧
      (atNop 0x00 false true).irqLine = true ∧ (atNop 0x00 false true).flagI = false) ∧
    VectorKind.nmi.override start.cfg = none ∧ start.plainAt VectorKind.nmi.addr ∧
    start.plainAt (VectorKind.nmi.addr + 1) ∧
    VectorKind.irq.override { start.cfg with irqOverride := some 0x2000 } = some 0x2000 ∧
    start.stackIsRam ∧ start.canonical :=
  ⟨by decide, by decide, rfl, .inr (.inr (by decide)), .inr (.inr (by decide)), rfl, start_stackIsRam,
    by decide, by decide⟩

theorem witness_NmiIsEdgeTriggered :
    (true = true ∧ start.nmiLine = false) ∧ ({ start with nmiLine := true } : State).nmiLine = true ∧
      false = false := by decide

theorem witness_RtiUndoesBrk :
    ∃ t, start.stackIsRam ∧ start.canonical ∧ exec (.brk 0xEE) start = .next t :=
  ⟨_, start_stackIsRam, ⟨by decide, by decide⟩, rfl⟩

theorem witness_ResetSequence :
    HostAction.setNmi true ≠ .reset ∧
    start.cfg.resetOverride = none ∧
      ({ start.cfg with resetOverride := some 0x1234 } : Config).resetOverride = some 0x1234 := by decide

theorem witness_OperandAccessChangesOnlyPcAndQueue :
    storeAddr (.zpX 0xFF) start = some 0x00FF ∧ storeAddr (.absX 0xFFFF) start = some 0xFFFF := by decide

theorem witness_LoadsSetRegisterNZ :
    (modeOf (.ldaImm 0x80) = some (.immediate 0x80) ∧ mnemonicOf (.ldaImm 0x80) = .lda) ∧
    (modeOf (.ldxZpY 0xFF) = some (.zpY 0xFF) ∧ mnemonicOf (.ldxZpY 0xFF) = .ldx) ∧
    (modeOf (.ldyAbsX 0xFFFF) = some (.absX 0xFFFF) ∧ mnemonicOf (.ldyAbsX 0xFFFF) = .ldy) := by decide

theorem witness_StoresWriteOneByte :
    start.canonical ∧ (modeOf (.staZpIndY 0xFF) = some (.zpIndY 0xFF) ∧ mnemonicOf (.staZpIndY 0xFF) = .sta) ∧
    (modeOf (.stxZpY 0xFF) = some (.zpY 0xFF) ∧ mnemonicOf (.stxZpY 0xFF) = .stx) ∧
    (modeOf (.styAbs 0xFFFF) = some (.abs 0xFFFF) ∧ mnemonicOf (.styAbs 0xFFFF) = .sty) ∧
    (modeOf (.stzAbsX 0xFFFF) = some (.absX 0xFFFF) ∧ mnemonicOf (.stzAbsX 0xFFFF) = .stz) :=
  ⟨⟨by decide, by decide⟩, by decide⟩

theorem witness_PushesStoreAtStackPointer : ({ start with sp := 0x00 } : State).canonical := by
  exact ⟨by decide, by decide⟩

theorem witness_DecimalArithmeticIsBcd : validBcd 0x99 = true ∧ validBcd 0x00 = true := by decide

/-- The flags, parameter and operands of each clause of `AddAndSubtract`. -/
theorem witness_AddAndSubtract :
    let drawing : State :=
      { start.setP 0x08 with cfg := { start.cfg with decimalNonBcd := .draw }, a := 0x0A }
    let bcd : State := { start.setP 0x08 with a := 0x99 }
    (modeOf (.adcImm 0x00) = some (.immediate 0x00) ∧ mnemonicOf (.adcImm 0x00) = .adc) ∧
    (modeOf (.sbcImm 0x00) = some (.immediate 0x00) ∧ mnemonicOf (.sbcImm 0x00) = .sbc) ∧
    (drawing.flagD = true ∧ drawing.cfg.decimalNonBcd = .draw ∧
      ¬ (validBcd drawing.a = true ∧ validBcd (operandValue (.immediate 0x00) drawing) = true)) ∧
    (¬ (bcd.flagD = true ∧ bcd.cfg.decimalNonBcd = .draw ∧
      ¬ (validBcd bcd.a = true ∧ validBcd (operandValue (.immediate 0x00) bcd) = true)) ∧ bcd.flagD = true) ∧
    start.flagD = false := by decide

theorem witness_ComparesSetNZC :
    (modeOf (.cmpZpInd 0xFF) = some (.zpInd 0xFF) ∧ mnemonicOf (.cmpZpInd 0xFF) = .cmp) ∧
    (modeOf (.cpxImm 0x00) = some (.immediate 0x00) ∧ mnemonicOf (.cpxImm 0x00) = .cpx) ∧
    (modeOf (.cpyAbs 0x0000) = some (.abs 0x0000) ∧ mnemonicOf (.cpyAbs 0x0000) = .cpy) := by decide

theorem witness_IncrementAndDecrement :
    start.canonical ∧ (modeOf .incAcc = some .accumulator ∧ mnemonicOf .incAcc = .inc) ∧
    (modeOf (.decAbsX 0xFFFF) = some (.absX 0xFFFF) ∧ mnemonicOf (.decAbsX 0xFFFF) = .dec ∧
      Mode.absX 0xFFFF ≠ .accumulator) :=
  ⟨⟨by decide, by decide⟩, by decide⟩

theorem witness_LogicSetsANZ :
    (modeOf (.andImm 0x00) = some (.immediate 0x00) ∧ mnemonicOf (.andImm 0x00) = .and) ∧
    (modeOf (.oraZpXInd 0xFF) = some (.zpXInd 0xFF) ∧ mnemonicOf (.oraZpXInd 0xFF) = .ora) ∧
    (modeOf (.eorAbsY 0xFFFF) = some (.absY 0xFFFF) ∧ mnemonicOf (.eorAbsY 0xFFFF) = .eor) := by decide

theorem witness_BitTestsFlags :
    (mnemonicOf (.bitImm 0x80) = .bit ∧ modeOf (.bitImm 0x80) = some (.immediate 0x80)) ∧
    (mnemonicOf (.bitAbsX 0xFFFF) = .bit ∧ modeOf (.bitAbsX 0xFFFF) = some (.absX 0xFFFF)) ∧
    ∀ w, Mode.absX 0xFFFF ≠ .immediate w := by
  refine ⟨by decide, by decide, fun w h => by cases h⟩

theorem witness_TestAndSetOrReset :
    start.canonical ∧ (modeOf (.tsbZp 0xFF) = some (.zp 0xFF) ∧ mnemonicOf (.tsbZp 0xFF) = .tsb) ∧
    (modeOf (.trbAbs 0xFFFF) = some (.abs 0xFFFF) ∧ mnemonicOf (.trbAbs 0xFFFF) = .trb) :=
  ⟨⟨by decide, by decide⟩, by decide⟩

theorem witness_ShiftsAndRotates :
    start.canonical ∧ (modeOf .aslAcc = some .accumulator ∧ mnemonicOf .aslAcc = .asl) ∧
    (modeOf (.lsrZpX 0xFF) = some (.zpX 0xFF) ∧ mnemonicOf (.lsrZpX 0xFF) = .lsr) ∧
    (modeOf (.rolAbs 0x0000) = some (.abs 0x0000) ∧ mnemonicOf (.rolAbs 0x0000) = .rol) ∧
    (modeOf (.rorAbsX 0xFFFF) = some (.absX 0xFFFF) ∧ mnemonicOf (.rorAbsX 0xFFFF) = .ror) ∧
    Mode.zpX 0xFF ≠ .accumulator :=
  ⟨⟨by decide, by decide⟩, by decide⟩

theorem witness_BitResetAndSet :
    start.canonical ∧ mnemonicOf (.rmb0 0x00) = (if false then .smb 0 else .rmb 0) ∧
      mnemonicOf (.smb7 0xFF) = (if true then .smb 7 else .rmb 7) :=
  ⟨⟨by decide, by decide⟩, by decide⟩

theorem witness_BranchAlwaysAndOnBit :
    mnemonicOf (.bbr0 0x00 0x80) = (if false then .bbs 0 else .bbr 0) ∧
      mnemonicOf (.bbs7 0xFF 0x7F) = (if true then .bbs 7 else .bbr 7) := by decide

theorem witness_JsrPushesReturnAddress :
    start.stackIsRam ∧ start.canonical ∧ (0x0200 : Nat) ≠ (stackAddr start.sp).toNat ∧
      (0x0200 : Nat) ≠ (stackAddr (start.sp - 1)).toNat :=
  ⟨start_stackIsRam, ⟨by decide, by decide⟩, by decide⟩

theorem witness_RtsUndoesJsr :
    ∃ t, start.stackIsRam ∧ start.canonical ∧ exec (.jsr 0xFFFF) start = .next t :=
  ⟨_, start_stackIsRam, ⟨by decide, by decide⟩, rfl⟩

theorem witness_NopAndUndefinedOnlyFetch :
    (mnemonicOf .nop = .nop ∧ (encode .nop).length = 1) ∧
    (mnemonicOf (.nop44 0xFF) = .undefined ∧ (encode (.nop44 0xFF)).length = 2) ∧
    (mnemonicOf .nop03 = .undefined ∧ (encode .nop03).length = 1) ∧
    (mnemonicOf (.nop5C 0xFFFF) = .undefined ∧ (encode (.nop5C 0xFFFF)).length = 3) := by decide

theorem witness_UartRegisters :
    Inv { start with uartQueue := [0x41, 0x42] } ∧ Inv { start with uartQueue := [] } ∧
      start.regionAt 0xD00F = some .uart ∧ (0xD00F : Word) ≠ start.cfg.uartStatusAddr ∧
      (0xD00F : Word) ≠ start.cfg.uartDataAddr :=
  ⟨{ start_inv with queueBounded := by decide }, { start_inv with }, by decide⟩

theorem witness_KeyboardColumnShowsSelectedRows :
    Inv nopState ∧ nopState.regionAt 0xD012 = some .keyboard ∧ (0xD012 : Word) ≠ nopState.cfg.kbdRowAddr ∧
      (0xD012 : Word) ≠ nopState.cfg.kbdColAddr := ⟨nopState_inv, by decide⟩

theorem witness_EffectiveAddresses :
    (∀ v, Mode.zpX 0xFF ≠ .zpIndY v) ∧ (∀ v, Mode.zpX 0xFF ≠ .absX v) ∧ ∀ v, Mode.zpX 0xFF ≠ .absY v := by
  refine ⟨?_, ?_, ?_⟩ <;> intro v h <;> cases h

theorem witness_BankSwitchActsAtOnce :
    Inv nopState ∧ nopState.cfg.bank = some bank ∧ nopState.regionAt bank.regAddr = some .bankReg ∧
      nopState.regionAt 0xD100 = some .bankWindow ∧ nopState.regionAt 0xD1FF = some .bankWindow :=
  ⟨nopState_inv, by decide⟩

theorem witness_FrameTickCountsFrames : 0 < start.cfg.cyclesPerFrame := by decide

theorem witness_NewlinesAreNormalized :
    (0x0D : Byte) ∉ [(0x0A : Byte)] ∧ [(0x0D : Byte)].head? ≠ some 0x0A ∧ (0x0A : Byte) ≠ 0x0D := by decide

/-- A startup input on TEST_MAP with LOAD_ADDR `a`. -/
def input (a : Word) (entry : List Byte) (cart : Option Cartridge) : StartupInput :=
  ⟨{ Config.testMap with loadAddr := a }, some entry, cart, some [], PowerOn.zero⟩

/-- A header whose payload of one byte goes to 0xE001. -/
def header : CartHeader := ⟨0xE001, 1, [0x33], some 0xE001, none, none⟩

theorem witness_StartupErrors_images :
    LoadsImages (fun _ => .bad) (input 0xFFFF [0x01] none) [⟨0xFFFF, [0x01]⟩] none ∧
    LoadsImages (fun _ => .bad) (input 0xE000 [] (some ⟨false, some [0x02]⟩))
      [⟨0xE000, []⟩, ⟨0xE000, [0x02]⟩] none ∧
    LoadsImages (fun _ => .ok header) (input 0xE000 [0x01] (some ⟨true, some []⟩))
      [⟨0xE000, [0x01]⟩, ⟨0xE001, [0x33]⟩] (some header) :=
  ⟨⟨_, rfl, .inl ⟨rfl, rfl, rfl⟩⟩, ⟨_, rfl, .inr (.inl ⟨_, rfl, rfl, rfl⟩)⟩,
    ⟨_, rfl, .inr (.inr ⟨_, _, rfl, rfl, by decide, rfl, rfl⟩)⟩⟩

theorem witness_StartupErrors_bad :
    BadLayout Config.testMap [⟨0xFFFF, [0x01, 0x02]⟩] ∧
    BadLayout { Config.testMap with regions := [⟨0xE000, 0x10000, .ram⟩] } [] ∧
    BadLayout { Config.testMap with regions := ⟨0xBFFF, 0xBFFF, .rom⟩ :: Config.testMap.regions } [] ∧
    BadLayout Config.testMap [⟨0xD01F, [0x01, 0x02]⟩] ∧
    BadLayout Config.testMap [⟨0xE000, [0x01, 0x02]⟩, ⟨0xE001, [0x33]⟩] := by
  refine ⟨.inl ⟨_, .head _, by decide⟩, .inr (.inl ⟨_, .head _, by decide⟩),
    .inr (.inr (.inl (by decide))), .inr (.inr (.inr (.inl ?_))), .inr (.inr (.inr (.inr ?_)))⟩
  · exact ⟨_, .head _, ⟨0xD010, 0xD01F, .keyboard⟩, by decide, 0xD01F, ⟨by decide, by decide⟩,
      ⟨by decide, by decide⟩⟩
  · exact ⟨_, _, 0xE001, rfl, ⟨by decide, by decide⟩, ⟨by decide, by decide⟩⟩

/-- Two images side by side, the second up to the last address, fit TEST_MAP. -/
theorem witness_StartupErrors_good :
    ¬ BadLayout Config.testMap [⟨0xFFFE, [0x01]⟩, ⟨0xFFFF, [0x33]⟩] ∧
      ∀ r ∈ Config.testMap.regions, r.lo ≤ r.hi := by
  refine ⟨?_, by decide⟩
  rintro (⟨i, hi, h⟩ | ⟨r, hr, h⟩ | h | ⟨i, hi, r, hr, n, h, k⟩ | ⟨i, j, n, e, h, k⟩)
  · exact absurd h (by revert i; decide)
  · exact absurd h (by revert r; decide)
  · exact absurd h (by decide)
  · have lo : ∀ i ∈ [(⟨0xFFFE, [0x01]⟩ : Image), ⟨0xFFFF, [0x33]⟩], 0xFFFE ≤ i.load := by decide
    have up : ∀ r ∈ Config.testMap.regions ++ bankRegions Config.testMap, r.hi ≤ 0xD01F := by decide
    have := lo i hi
    have := up r hr
    have := h.1
    have := k.2
    omega
  · cases e
    have := h.2
    have := k.1
    simp only [List.length_cons, List.length_nil] at *
    omega

/-- A startup that succeeds, with a cartridge. -/
theorem witness_StartupErrors_ok :
    ∃ s, startup (fun _ => .ok header) (input 0xE000 [0x01] (some ⟨true, some []⟩)) = .ok s := ⟨_, rfl⟩

theorem witness_StartupErrors_refused :
    (∃ h, (some ⟨true, none⟩ : Option Cartridge) = some ⟨h, none⟩) ∧
      ∃ g, (fun _ : List Byte => CartResult.ok ⟨0, 1, [], none, none, none⟩) [] = .ok g ∧
        g.payload.length < g.length := ⟨⟨true, rfl⟩, _, rfl, by decide⟩

theorem witness_RegionOrderIsIrrelevant :
    ([⟨0, 1, .ram⟩, ⟨2, 3, .rom⟩] : List Region).Perm [⟨2, 3, .rom⟩, ⟨0, 1, .ram⟩] ∧
      regionsDisjoint [⟨0, 1, .ram⟩, ⟨2, 3, .rom⟩] = true := ⟨.swap _ _ _, by decide⟩

end Sys2Proof.Tests
end

section
/-! Proofs of the family 20_memory: ROM never changes (R59), and the UART registers (R62 to R66). -/

namespace Sys2Proof.Proofs.Memory

open Sys2Proof.Machine Sys2Proof.Laws

/-! ## ROM: the relation that every transition keeps -/

/-- `t` has the platform of `s` and holds every byte that `s` maps as ROM (R59). -/
structure KeepsRom (s t : State) : Prop where
  cfg : t.cfg = s.cfg
  bytes : ∀ a : Word, s.regionAt a = some .rom → t.mem.read a.toNat = s.mem.read a.toNat

/-- The next state, where `r` gives one, keeps the ROM of `s`. -/
def NextKeepsRom (s : State) (r : Result) : Prop := ∀ t, r = .next t → KeepsRom s t

theorem regionAt_of_cfg {s t : State} (h : t.cfg = s.cfg) (a : Word) : t.regionAt a = s.regionAt a := by
  unfold State.regionAt; rw [h]

theorem busValue_of_rom {s : State} {a : Word} (h : s.regionAt a = some .rom) :
    s.busValue a = s.mem.read a.toNat := by
  unfold State.busValue; rw [h]

namespace KeepsRom

theorem of_mem {s t : State} (hcfg : t.cfg = s.cfg) (hmem : t.mem = s.mem) : KeepsRom s t :=
  ⟨hcfg, fun _ _ => by rw [hmem]⟩

theorem refl (s : State) : KeepsRom s s := of_mem rfl rfl

theorem trans {s t u : State} (hst : KeepsRom s t) (htu : KeepsRom t u) : KeepsRom s u where
  cfg := htu.cfg.trans hst.cfg
  bytes a ha := (htu.bytes a ((regionAt_of_cfg hst.cfg a).trans ha)).trans (hst.bytes a ha)

theorem quiet_after {s t u : State} (h : KeepsRom s t) (hcfg : u.cfg = t.cfg) (hmem : u.mem = t.mem) :
    KeepsRom s u := h.trans (of_mem hcfg hmem)

theorem quiet_before {s t u : State} (h : KeepsRom t u) (hcfg : t.cfg = s.cfg) (hmem : t.mem = s.mem) :
    KeepsRom s u := (of_mem hcfg hmem).trans h

theorem busValue_eq {s t : State} (h : KeepsRom s t) {a : Word} (ha : s.regionAt a = some .rom) :
    t.regionAt a = some .rom ∧ t.busValue a = s.busValue a := by
  have hat : t.regionAt a = some .rom := (regionAt_of_cfg h.cfg a).trans ha
  exact ⟨hat, by rw [busValue_of_rom hat, busValue_of_rom ha, h.bytes a ha]⟩

end KeepsRom

theorem NextKeepsRom.next {s t : State} (h : KeepsRom s t) : NextKeepsRom s (.next t) := by
  rintro _ ⟨⟩
  exact h

theorem NextKeepsRom.quiet_before {s t : State} {r : Result} (h : NextKeepsRom t r) (hcfg : t.cfg = s.cfg)
    (hmem : t.mem = s.mem) : NextKeepsRom s r := fun u hu => (h u hu).quiet_before hcfg hmem

/-! ## ROM: writes, the stack and the entry through a vector -/

/-- A Bus write stores into `mem` only at an address of RAM, so never at one of ROM (R55, R59). -/
theorem write8_keepsRom (s : State) (ea : Word) (v : Byte) : KeepsRom s (s.write8 ea v) where
  cfg := write8_cfg s ea v
  bytes a ha := by
    rcases write8_cases s ea v with ⟨hram, h⟩ | ⟨_, _, h⟩ | ⟨_, h⟩ | ⟨_, h⟩ | ⟨_, _, _, _, h⟩ <;> rw [h]
    case inl =>
      have hne : a ≠ ea := by
        rintro rfl
        rw [hram] at ha
        cases ha
      exact read_write_other _ _ _ _ fun h => hne (BitVec.eq_of_toNat_eq h)

theorem writeM_keepsRom (o : Operand) (v : Byte) (s : State) : KeepsRom s (writeM o v s) := by
  rcases writeM_cases o v s with ⟨_, h⟩ | ⟨_, _, h⟩ | ⟨ea, _, h⟩ <;> rw [h]
  · exact .of_mem rfl rfl
  · exact .refl s
  · exact write8_keepsRom s ea v

theorem push8_keepsRom (s : State) (v : Byte) : KeepsRom s (s.push8 v) :=
  (write8_keepsRom s (stackAddr s.sp) v).quiet_after rfl rfl

theorem pull8_keepsRom (s : State) : KeepsRom s s.pull8.2 := .of_mem (pull8_cfg s) (pull8_mem s)

theorem push16_keepsRom (s : State) (w : Word) : KeepsRom s (s.push16 w) :=
  (push8_keepsRom s (hi8 w)).trans (push8_keepsRom _ (lo8 w))

theorem enterVector_keepsRom (s : State) (k : VectorKind) (b : Bool) : KeepsRom s (s.enterVector k b) := by
  have pushed : KeepsRom s ((s.push16 s.pc).push8 ((s.push16 s.pc).pByte b)) :=
    (push16_keepsRom s s.pc).trans (push8_keepsRom _ _)
  exact pushed.quiet_after (by simp [State.enterVector]) (by simp [State.enterVector])

theorem enterInterrupt_keepsRom (s : State) (k : VectorKind) : KeepsRom s (s.enterInterrupt k) :=
  (enterVector_keepsRom s k false).quiet_after rfl rfl

theorem resetSequence_keepsRom (s : State) : KeepsRom s s.resetSequence :=
  .of_mem (loadVector_cfg _ .reset) (loadVector_mem _ .reset)

/-! ## ROM: the shared operations of the instructions -/

section
variable (m : Mode) (k : Cost) (s : State)

theorem afterOperand_keepsRom : KeepsRom s (afterOperand m s) :=
  .of_mem (by simp [afterOperand]) (by simp [afterOperand])

theorem opLda_keepsRom : KeepsRom s (opLda m k s) :=
  (afterOperand_keepsRom m s).quiet_after rfl rfl

theorem opLdx_keepsRom : KeepsRom s (opLdx m k s) :=
  (afterOperand_keepsRom m s).quiet_after rfl rfl

theorem opLdy_keepsRom : KeepsRom s (opLdy m k s) :=
  (afterOperand_keepsRom m s).quiet_after rfl rfl

theorem opCompare_keepsRom (v : Byte) : KeepsRom s (opCompare v m k s) :=
  (afterOperand_keepsRom m s).quiet_after rfl rfl

theorem opLogic_keepsRom (f : Byte → Byte → Byte) : KeepsRom s (opLogic f m k s) :=
  (afterOperand_keepsRom m s).quiet_after rfl rfl

theorem bitTest_keepsRom (v : Byte) (immediate : Bool) : KeepsRom s (s.bitTest v immediate) := by
  cases immediate <;> exact .of_mem rfl rfl

theorem opBit_keepsRom : KeepsRom s (opBit m k s) :=
  ((afterOperand_keepsRom m s).trans (bitTest_keepsRom _ _ _)).quiet_after rfl rfl

theorem addOperand_keepsRom (v : Byte) : KeepsRom s (s.addOperand v) := by
  rcases addOperand_cases s v with ⟨_, h⟩ | ⟨_, _, h⟩ | ⟨_, _, h⟩ <;> rw [h] <;> exact .of_mem rfl rfl

theorem opAdc_keepsRom : KeepsRom s (opAdc m k s) :=
  ((afterOperand_keepsRom m s).trans (addOperand_keepsRom _ _)).quiet_after rfl rfl

theorem subOperand_keepsRom (v : Byte) : KeepsRom s (s.subOperand v) := by
  rcases subOperand_cases s v with ⟨_, h⟩ | ⟨_, _, h⟩ | ⟨_, _, h⟩ <;> rw [h] <;> exact .of_mem rfl rfl

theorem opSbc_keepsRom : KeepsRom s (opSbc m k s) :=
  ((afterOperand_keepsRom m s).trans (subOperand_keepsRom _ _)).quiet_after rfl rfl

theorem opStore_keepsRom (v : Byte) : KeepsRom s (opStore m v k s) :=
  ((writeM_keepsRom _ v _).quiet_before (resolve_cfg m s) (resolve_mem m s)).quiet_after rfl rfl

theorem opModify_keepsRom (f : Byte → Byte) : KeepsRom s (opModify f m k s) :=
  ((afterOperand_keepsRom m s).trans (writeM_keepsRom _ _ _)).quiet_after rfl rfl

theorem opBitModify_keepsRom (f : Byte → Byte) : KeepsRom s (opBitModify f m k s) :=
  ((afterOperand_keepsRom m s).trans (writeM_keepsRom _ _ _)).quiet_after rfl rfl

/-- TSB and TRB set Z before the byte is stored (R244, R245). -/
theorem opTestModify_keepsRom (f : Byte → Byte → Byte) : KeepsRom s (opTestModify f m k s) := by
  have hz : KeepsRom s ((afterOperand m s).setZ ((s.a &&& operandValue m s) == 0x00)) :=
    (afterOperand_keepsRom m s).quiet_after rfl rfl
  exact (hz.trans (writeM_keepsRom _ _ _)).quiet_after rfl rfl

/-- A shift sets C before the byte is stored (R246 to R249). -/
theorem opShift_keepsRom (f : Byte → ShiftOut) : KeepsRom s (opShift f m k s) := by
  have hc : KeepsRom s ((afterOperand m s).setC (f (operandValue m s)).c) :=
    (afterOperand_keepsRom m s).quiet_after rfl rfl
  exact (hc.trans (writeM_keepsRom _ _ _)).quiet_after rfl rfl

theorem branchIf_keepsRom (taken : Bool) (d : Byte) (base : Nat) :
    KeepsRom s (s.branchIf taken d base) := by
  rw [branchIf_frame]
  exact .of_mem rfl rfl

theorem opBranch_keepsRom (cond : Bool) (d : Byte) : KeepsRom s (opBranch cond d s) :=
  (branchIf_keepsRom s.operandFetch cond d 2).quiet_before rfl rfl

theorem opBitBranch_keepsRom (n : Fin 8) (b : Bool) (z d : Byte) : KeepsRom s (opBitBranch n b z d s) :=
  (branchIf_keepsRom (s.operandFetch.read8 (zext16 z)).2.operandFetch _ d 5).quiet_before rfl rfl

theorem opJmp_keepsRom : KeepsRom s (opJmp m k s) := .of_mem (resolve_cfg m s) (resolve_mem m s)

theorem jsrPushed_keepsRom : KeepsRom s s.jsrPushed :=
  (push16_keepsRom s.operandFetch _).quiet_before rfl rfl

theorem opJsr_keepsRom (addr : Word) : KeepsRom s (opJsr addr k s) :=
  (jsrPushed_keepsRom s).quiet_after (by simp [opJsr]) (by simp [opJsr])

theorem opBrk_keepsRom : KeepsRom s (opBrk k s) :=
  ((enterVector_keepsRom s.operandFetch .irq true).quiet_before (s := s) rfl rfl).quiet_after rfl rfl

theorem opRts_keepsRom : KeepsRom s (opRts k s) := .of_mem (pull16_cfg s) (pull16_mem s)

theorem opUndef2_keepsRom : KeepsRom s (opUndef2 k s) :=
  .of_mem (operandFetch_cfg s) (operandFetch_mem s)

theorem opUndef3_keepsRom : KeepsRom s (opUndef3 k s) :=
  (opUndef2_keepsRom k s.operandFetch).quiet_before (operandFetch_cfg s) (operandFetch_mem s)

theorem opRti_keepsRom : KeepsRom s (opRti k s) :=
  .of_mem (returnFromInterrupt_cfg s) (returnFromInterrupt_mem s)

end

/-! ## ROM: one instruction, one step, a run -/

theorem exec_keepsRom (i : Instr) (s : State) : NextKeepsRom s (exec i s) := by
  cases i with
  | ldaAbs | ldaAbsX | ldaAbsY | ldaImm | ldaZp | ldaZpInd | ldaZpIndY | ldaZpX | ldaZpXInd =>
    exact .next (opLda_keepsRom _ _ s)
  | ldxAbs | ldxAbsY | ldxImm | ldxZp | ldxZpY =>
    exact .next (opLdx_keepsRom _ _ s)
  | ldyAbs | ldyAbsX | ldyImm | ldyZp | ldyZpX =>
    exact .next (opLdy_keepsRom _ _ s)
  | staAbs | staAbsX | staAbsY | staZp | staZpInd | staZpIndY | staZpX | staZpXInd | stxAbs | stxZp
  | stxZpY | styAbs | styZp | styZpX | stzAbs | stzAbsX | stzZp | stzZpX =>
    exact .next (opStore_keepsRom _ _ s _)
  | pha | php | phx | phy =>
    exact .next ((push8_keepsRom s _).quiet_after rfl rfl)
  | adcAbs | adcAbsX | adcAbsY | adcImm | adcZp | adcZpInd | adcZpIndY | adcZpX | adcZpXInd =>
    exact .next (opAdc_keepsRom _ _ s)
  | sbcAbs | sbcAbsX | sbcAbsY | sbcImm | sbcZp | sbcZpInd | sbcZpIndY | sbcZpX | sbcZpXInd =>
    exact .next (opSbc_keepsRom _ _ s)
  | cmpAbs | cmpAbsX | cmpAbsY | cmpImm | cmpZp | cmpZpInd | cmpZpIndY | cmpZpX | cmpZpXInd | cpxAbs
  | cpxImm | cpxZp | cpyAbs | cpyImm | cpyZp =>
    exact .next (opCompare_keepsRom _ _ s _)
  | decAbs | decAbsX | decAcc | decZp | decZpX | incAbs | incAbsX | incAcc | incZp | incZpX =>
    exact .next (opModify_keepsRom _ _ s _)
  | andAbs | andAbsX | andAbsY | andImm | andZp | andZpInd | andZpIndY | andZpX | andZpXInd | eorAbs
  | eorAbsX | eorAbsY | eorImm | eorZp | eorZpInd | eorZpIndY | eorZpX | eorZpXInd | oraAbs | oraAbsX
  | oraAbsY | oraImm | oraZp | oraZpInd | oraZpIndY | oraZpX | oraZpXInd =>
    exact .next (opLogic_keepsRom _ _ s _)
  | bitAbs | bitAbsX | bitImm | bitZp | bitZpX =>
    exact .next (opBit_keepsRom _ _ s)
  | trbAbs | trbZp | tsbAbs | tsbZp =>
    exact .next (opTestModify_keepsRom _ _ s _)
  | aslAbs | aslAbsX | aslAcc | aslZp | aslZpX | lsrAbs | lsrAbsX | lsrAcc | lsrZp | lsrZpX | rolAbs
  | rolAbsX | rolAcc | rolZp | rolZpX | rorAbs | rorAbsX | rorAcc | rorZp | rorZpX =>
    exact .next (opShift_keepsRom _ _ s _)
  | rmb0 | rmb1 | rmb2 | rmb3 | rmb4 | rmb5 | rmb6 | rmb7 | smb0 | smb1 | smb2 | smb3 | smb4 | smb5 | smb6
  | smb7 =>
    exact .next (opBitModify_keepsRom _ _ s _)
  | bcc | bcs | beq | bmi | bne | bpl | bra | bvc | bvs =>
    exact .next (opBranch_keepsRom s _ _)
  | bbr0 | bbr1 | bbr2 | bbr3 | bbr4 | bbr5 | bbr6 | bbr7 | bbs0 | bbs1 | bbs2 | bbs3 | bbs4 | bbs5 | bbs6
  | bbs7 =>
    exact .next (opBitBranch_keepsRom s _ _ _ _)
  | jmpAbs | jmpAbsInd | jmpAbsXInd =>
    exact .next (opJmp_keepsRom _ _ s)
  | jsr =>
    exact .next (opJsr_keepsRom _ s _)
  | brk =>
    exact .next (opBrk_keepsRom _ s)
  | rti =>
    exact .next (opRti_keepsRom _ s)
  | pla | plp | plx | ply =>
    exact .next ((pull8_keepsRom s).quiet_after rfl rfl)
  | rts =>
    exact .next (opRts_keepsRom _ s)
  | nop02 | nop22 | nop42 | nop44 | nop54 | nop62 | nop82 | nopC2 | nopD4 | nopE2 | nopF4 =>
    exact .next (opUndef2_keepsRom _ s)
  | nop5C | nopDC | nopFC =>
    exact .next (opUndef3_keepsRom _ s)
  | clc | cld | cli | clv | dex | dey | inx | iny | nop | sec | sed | sei | stp | tax | tay | tsx | txa
  | txs | tya | wai | nop03 | nop0B | nop13 | nop1B | nop23 | nop2B | nop33 | nop3B | nop43 | nop4B
  | nop53 | nop5B | nop63 | nop6B | nop73 | nop7B | nop83 | nop8B | nop93 | nop9B | nopA3 | nopAB | nopB3
  | nopBB | nopC3 | nopD3 | nopE3 | nopEB | nopF3 | nopFB =>
    exact .next (.of_mem rfl rfl)

theorem fetchInstr_keepsRom (s : State) : KeepsRom s (fetchInstr s).2 := .of_mem rfl rfl

theorem boundaryStep_keepsRom (s : State) : NextKeepsRom s (boundaryStep s) := by
  unfold boundaryStep
  split
  · exact .next ((enterInterrupt_keepsRom { s with nmiLatch := false } .nmi).quiet_before rfl rfl)
  · split
    · exact .next (enterInterrupt_keepsRom s .irq)
    · exact fun t h => (fetchInstr_keepsRom s).trans (exec_keepsRom _ _ t h)

theorem cpuStep_keepsRom (s : State) : NextKeepsRom s (cpuStep s) := by
  unfold cpuStep
  split
  · exact .next (.of_mem rfl rfl)
  · split
    · exact (boundaryStep_keepsRom (s.setRun .running)).quiet_before rfl rfl
    · exact .next (.of_mem rfl rfl)
  · exact boundaryStep_keepsRom s

theorem step_keepsRom (s : State) : NextKeepsRom s (step s) := by
  unfold step
  split
  next t h => exact .next ((cpuStep_keepsRom s t h).quiet_after (frameTick_cfg t _) (frameTick_mem t _))
  all_goals rintro _ ⟨⟩

theorem hostAction_keepsRom (s : State) (act : HostAction) : KeepsRom s (s.hostAction act) := by
  cases act with
  | keyEvent | setIrq | setNmi => exact .of_mem rfl rfl
  | reset => exact resetSequence_keepsRom s

theorem hostActions_keepsRom (s : State) (acts : List HostAction) : KeepsRom s (s.hostActions acts) := by
  induction acts generalizing s with
  | nil => exact .refl s
  | cons act acts ih => exact (hostAction_keepsRom s act).trans (ih (s.hostAction act))

theorem iterate_keepsRom (acts : List HostAction) (s : State) : NextKeepsRom s (iterate acts s) :=
  fun t h => (hostActions_keepsRom s acts).trans (step_keepsRom (s.hostActions acts) t h)

theorem drive_keepsRom (acts : List (List HostAction)) (s : State) : NextKeepsRom s (drive acts s) := by
  induction acts generalizing s with
  | nil => exact .next (.refl s)
  | cons now rest ih =>
    unfold drive
    split
    next t h => exact fun u hu => (iterate_keepsRom now s t h).trans (ih t u hu)
    all_goals rintro _ ⟨⟩

/-- Settles O15, by the invariant `KeepsRom` of every instruction and host action, along the run. -/
theorem romNeverChanges : Obligations.RomNeverChanges :=
  fun acts s t _ h ha => (drive_keepsRom acts s t h).busValue_eq ha

/-! ## The platform: a register is where the parameters say -/

/-- In a table whose regions share no address, the region that holds `a` is the one looked up (R57). -/
theorem lookupRegion_eq_of_mem {rs : List Region} {r : Region} {a : Word}
    (apart : regionsDisjoint rs = true) (hr : r ∈ rs) (ha : regionHas a r = true) :
    lookupRegion rs a = some r.kind := by
  induction rs with
  | nil => cases hr
  | cons p rs ih =>
    obtain ⟨hp, hrs⟩ : rs.all p.disjoint = true ∧ regionsDisjoint rs = true := by
      simpa [regionsDisjoint] using apart
    rcases List.mem_cons.1 hr with rfl | hr
    · simp [lookupRegion, ha]
    · have miss : regionHas a p = false := by
        have hd := List.all_eq_true.1 hp r hr
        simp only [Region.disjoint, regionHas, Bool.or_eq_true, Bool.and_eq_true, Bool.and_eq_false_iff,
          decide_eq_true_eq, decide_eq_false_iff_not] at hd ha ⊢
        omega
      simpa [lookupRegion, miss] using ih hrs hr

theorem lookupRegion_of_hasRegister {c : Config} {a : Word} {k : RegionKind}
    (apart : regionsDisjoint c.regions = true) (h : c.hasRegister a k = true) :
    lookupRegion c.regions a = some k := by
  obtain ⟨r, hr, hk, ha⟩ : ∃ r ∈ c.regions, r.kind = k ∧ regionHas a r = true := by
    simpa [Config.hasRegister, regionHas, and_assoc] using h
  exact hk ▸ lookupRegion_eq_of_mem apart hr ha

/-- What the invariant says of the UART's registers and status bits (R63, R64). -/
theorem uart_parameters_of_inv {s : State} (h : Inv s) :
    s.regionAt s.cfg.uartStatusAddr = some .uart ∧ s.regionAt s.cfg.uartDataAddr = some .uart ∧
      s.cfg.uartDataAddr ≠ s.cfg.uartStatusAddr ∧ s.cfg.uartDaBit ≠ s.cfg.uartOvrBit := by
  have hp := h.platform
  simp only [Config.wellFormed, Config.uartWellFormed, Bool.and_eq_true, bne_iff_ne] at hp
  obtain ⟨⟨⟨⟨⟨⟨_, apart⟩, _⟩, _⟩, ⟨⟨addrs, bits⟩, status⟩, data⟩, _⟩, _⟩ := hp
  exact ⟨lookupRegion_of_hasRegister apart status, lookupRegion_of_hasRegister apart data, addrs.symm, bits⟩

/-! ## The UART block -/

theorem read8_of_uart {s : State} {a : Word} (h : s.regionAt a = some .uart) :
    s.read8 a = (s.uartValue a, { s with uartQueue := s.uartAfterRead a }) := by
  rw [read8_spec]
  unfold State.busValue State.queueAfterRead
  rw [h]

theorem write8_of_uart {s : State} {a : Word} (h : s.regionAt a = some .uart) (v : Byte) :
    s.write8 a v = s := by
  unfold State.write8; rw [h]

theorem read8_uartStatus {s : State} (h : s.regionAt s.cfg.uartStatusAddr = some .uart) :
    s.read8 s.cfg.uartStatusAddr = (s.uartStatus, s) := by
  rw [read8_of_uart h]; simp [State.uartValue, State.uartAfterRead]

theorem read8_uartData {s : State} (h : s.regionAt s.cfg.uartDataAddr = some .uart)
    (hne : s.cfg.uartDataAddr ≠ s.cfg.uartStatusAddr) :
    s.read8 s.cfg.uartDataAddr = (s.uartHead, { s with uartQueue := s.uartQueue.tail }) := by
  rw [read8_of_uart h]; simp [State.uartValue, State.uartAfterRead, hne]

theorem read8_uartOther {s : State} {a : Word} (h : s.regionAt a = some .uart)
    (hs : a ≠ s.cfg.uartStatusAddr) (hd : a ≠ s.cfg.uartDataAddr) : s.read8 a = (0x00, s) := by
  rw [read8_of_uart h]; simp [State.uartValue, State.uartAfterRead, hs, hd]

/-- One status flag put at its bit shows at that bit only. -/
theorem getLsbD_flagBit (b : Bool) (i k : Fin 8) :
    ((if b then 0x01#8 else 0x00#8) <<< i.val).getLsbD k.val = (b && decide (k = i)) := by
  revert b i k
  decide

/-- Every bit of STATUS (R64). -/
theorem getLsbD_uartStatus (s : State) (k : Fin 8) :
    s.uartStatus.getLsbD k.val = ((!s.uartQueue.isEmpty && decide (k = s.cfg.uartDaBit)) ||
      (s.uartOverrun && decide (k = s.cfg.uartOvrBit))) := by
  have avail : (if s.uartQueue.isEmpty then 0x00#8 else 0x01#8) =
      if !s.uartQueue.isEmpty then 0x01#8 else 0x00#8 := by
    cases s.uartQueue.isEmpty <;> rfl
  rw [State.uartStatus, avail, BitVec.getLsbD_or, getLsbD_flagBit, getLsbD_flagBit]

/-- Settles O54, by the reads and writes of the UART block and the bits of STATUS. -/
theorem uartRegisters : Obligations.UartRegisters := by
  intro s inv
  obtain ⟨status, data, addrs, bits⟩ := uart_parameters_of_inv inv
  have statusValue : s.busValue s.cfg.uartStatusAddr = s.uartStatus :=
    congrArg Prod.fst (read8_uartStatus status)
  rw [statusValue]
  refine ⟨?_, ?_, fun k hda hovr => ?_, ?_, fun b q hq => ?_, fun hq => ?_,
    fun a h hs hd => read8_uartOther h hs hd, fun a v h => write8_of_uart h v⟩
  · rw [getLsbD_uartStatus]; simp [bits]
  · rw [getLsbD_uartStatus]; simp [bits.symm]
  · rw [getLsbD_uartStatus]; simp [hda, hovr]
  · rw [read8_uartStatus status]
  · rw [read8_uartData data addrs, State.uartHead, hq]; rfl
  · have popped : s.uartQueue.tail = s.uartQueue := by rw [hq]; rfl
    have head : s.uartHead = 0x00 := by rw [State.uartHead, hq]; rfl
    rw [read8_uartData data addrs, popped, head]

end Sys2Proof.Proofs.Memory
end

section
/-! Proofs of the family 41_load_store: loads, stores, transfers, pushes and pulls (R160 to R180), and the
index steps (R215 to R218). -/

namespace Sys2Proof.Proofs.LoadStore

open Sys2Proof.Machine Sys2Proof.Laws

/-! ## Operand accesses: PC and the UART queue only -/

theorem onlyRead_refl (s : State) : OnlyRead s s 0 := ⟨by simp, List.suffix_refl _⟩

theorem onlyRead_trans {s t u : State} {m n : Nat} (hst : OnlyRead s t m) (htu : OnlyRead t u n) :
    OnlyRead s u (m + n) := by
  obtain ⟨ht, hqt⟩ := hst
  obtain ⟨hu, hqu⟩ := htu
  refine ⟨?_, hqu.trans hqt⟩
  rw [hu, ht, BitVec.ofNat_add, BitVec.add_assoc]

section
variable (s : State)

/-- A Bus read moves no PC (R62). -/
theorem read8_onlyRead (a : Word) : OnlyRead s (s.read8 a).2 0 :=
  ⟨by simp [read8_spec], queueAfterRead_suffix s a⟩

theorem operandFetch_onlyRead : OnlyRead s s.operandFetch 1 := ⟨rfl, queueAfterRead_suffix s s.pc⟩

theorem operandFetch_twice_onlyRead : OnlyRead s s.operandFetch.operandFetch 2 :=
  onlyRead_trans (operandFetch_onlyRead s) (operandFetch_onlyRead s.operandFetch)

theorem read16_onlyRead (a : Word) : OnlyRead s (s.read16 a).2 0 :=
  onlyRead_trans (read8_onlyRead s a) (read8_onlyRead (s.read8 a).2 (a + 1))

theorem read16zp_onlyRead (z : Byte) : OnlyRead s (s.read16zp z).2 0 :=
  onlyRead_trans (read8_onlyRead s (zext16 z)) (read8_onlyRead (s.read8 (zext16 z)).2 (zext16 (z + 1)))

theorem readM_onlyRead (o : Operand) : OnlyRead s (readM o s).2 0 := by
  unfold readM
  split
  · exact onlyRead_refl s
  · exact onlyRead_refl s
  · exact read8_onlyRead s _

/-- Resolving a mode fetches its operand bytes, and reads its pointer where it has one (R130 to R143). -/
theorem afterAddress_onlyRead (m : Mode) : OnlyRead s (afterAddress m s) m.size := by
  cases m with
  | accumulator => exact onlyRead_refl s
  | immediate | zp | zpX | zpY => exact operandFetch_onlyRead s
  | zpXInd | zpIndY | zpInd => exact onlyRead_trans (operandFetch_onlyRead s) (read16zp_onlyRead _ _)
  | abs | absX | absY => exact operandFetch_twice_onlyRead s
  | absInd | absXInd => exact onlyRead_trans (operandFetch_twice_onlyRead s) (read16_onlyRead _ _)

theorem afterOperand_onlyRead (m : Mode) : OnlyRead s (afterOperand m s) m.size :=
  onlyRead_trans (afterAddress_onlyRead s m) (readM_onlyRead _ _)

end

/-! ## The cycle entry of a row -/

/-- The cycle entry by the first byte of the encoding, for a row whose bytes are known (R430). -/
theorem costOf_of_encode {i : Instr} {op : Byte} {bs : List Byte} (h : encode i = op :: bs) :
    costOf i = ⟨(cycleMap.get (opcodeHigh op)).get (opcodeLow op), pagePenalty i, decimalPenalty i⟩ := by
  rw [costOf, opcodeOf, h, List.headD_cons]

/-! ## Loads (R160 to R162) -/

section
variable (m : Mode) (k : Cost) (s : State)

theorem afterOperand_flagD : (afterOperand m s).flagD = s.flagD := by simp [afterOperand]

theorem opLda_eq : opLda m k s = { afterOperand m s with
    a := operandValue m s, flagN := (operandValue m s).getLsbD 7, flagZ := operandValue m s == 0
    cycles := k.total (resolve m s).1.crossed s.flagD } := by
  rw [← afterOperand_flagD m s]; rfl

theorem opLdx_eq : opLdx m k s = { afterOperand m s with
    x := operandValue m s, flagN := (operandValue m s).getLsbD 7, flagZ := operandValue m s == 0
    cycles := k.total (resolve m s).1.crossed s.flagD } := by
  rw [← afterOperand_flagD m s]; rfl

theorem opLdy_eq : opLdy m k s = { afterOperand m s with
    y := operandValue m s, flagN := (operandValue m s).getLsbD 7, flagZ := operandValue m s == 0
    cycles := k.total (resolve m s).1.crossed s.flagD } := by
  rw [← afterOperand_flagD m s]; rfl

end

/-- The shared operation of a load's mnemonic; none for the other mnemonics. -/
def loadOp : Mnemonic → Option (Mode → Cost → State → State)
  | .lda => some opLda
  | .ldx => some opLdx
  | .ldy => some opLdy
  | _ => none

/-- Every row of a load runs its mnemonic's operation, with the mode and the cycle entry of the table. -/
theorem exec_of_loadOp {i : Instr} {m : Mode} {op : Mode → Cost → State → State} (s : State)
    (hm : modeOf i = some m) (hop : loadOp (mnemonicOf i) = some op) :
    exec i s = .next (op m (costOf i) s) := by
  cases i with
  | ldaAbs | ldaAbsX | ldaAbsY | ldaImm | ldaZp | ldaZpInd | ldaZpIndY | ldaZpX | ldaZpXInd
  | ldxAbs | ldxAbsY | ldxImm | ldxZp | ldxZpY | ldyAbs | ldyAbsX | ldyImm | ldyZp | ldyZpX =>
    cases hm
    cases hop
    rw [costOf_of_encode rfl]
    rfl
  | _ => cases hop

/-- Settles O30, by the equation of each load's operation. -/
theorem loadsSetRegisterNZ : Obligations.LoadsSetRegisterNZ := by
  intro i m s hm
  refine ⟨afterOperand_onlyRead s m, fun h => ?_, fun h => ?_, fun h => ?_⟩
  · rw [exec_of_loadOp (op := opLda) s hm (by rw [h]; rfl), opLda_eq]; rfl
  · rw [exec_of_loadOp (op := opLdx) s hm (by rw [h]; rfl), opLdx_eq]; rfl
  · rw [exec_of_loadOp (op := opLdy) s hm (by rw [h]; rfl), opLdy_eq]; rfl

/-! ## One Bus write (R55) -/

/-- A Bus write sees neither SP nor the cycle count. -/
theorem write8_setSP_setCycles (s : State) (p : Byte) (n : Nat) (ea : Word) (v : Byte) :
    ((s.setSP p).setCycles n).write8 ea v = ((s.write8 ea v).setSP p).setCycles n := by
  unfold State.write8
  rw [regionAt_setCycles, regionAt_setSP, setCycles_cfg, setSP_cfg]
  by_cases h : ea = s.cfg.kbdRowAddr
  · simp only [if_pos h]
    split <;> rfl
  · simp only [if_neg h]
    split <;> rfl

/-- A Bus write is one store: the byte is where the region of `ea` keeps it, and nothing else changes. -/
theorem write8_stored {s : State} (hs : s.canonical) (ea : Word) (v : Byte) :
    Stored s (s.write8 ea v) ea v := by
  obtain ⟨hmem, hvideo⟩ := hs
  rcases write8_cases s ea v with
    ⟨hr, h⟩ | ⟨hr, hrow, h⟩ | ⟨hr, h⟩ | ⟨hr, h⟩ | ⟨hram, hvid, hbank, hrow, h⟩ <;> rw [h]
  · constructor <;> simp_all [read_write_same, read_write_other]
  · constructor <;> simp_all
  · constructor <;> simp_all [read_write_same, read_write_other]
  · constructor <;> simp_all
  · constructor <;> simp_all

/-! ## Stores (R163 to R166) -/

/-- The byte that a store's mnemonic writes; none for the other mnemonics. -/
def storedByte (s : State) : Mnemonic → Option Byte
  | .sta => some s.a
  | .stx => some s.x
  | .sty => some s.y
  | .stz => some 0x00
  | _ => none

/-- Every row of a store has a store address and no penalty in its cycle entry (R431). -/
theorem exec_of_storedByte {i : Instr} {m : Mode} {s : State} {v : Byte} (hm : modeOf i = some m)
    (hv : storedByte s (mnemonicOf i) = some v) :
    exec i s = .next (opStore m v (.fixed (costOf i).base) s) ∧ ∃ ea, storeAddr m s = some ea := by
  cases i with
  | staAbs | staAbsX | staAbsY | staZp | staZpInd | staZpIndY | staZpX | staZpXInd | stxAbs | stxZp
  | stxZpY | styAbs | styZp | styZpX | stzAbs | stzAbsX | stzZp | stzZpX =>
    cases hm
    cases hv
    rw [costOf_of_encode rfl]
    exact ⟨rfl, _, rfl⟩
  | _ => cases hv

theorem afterAddress_canonical {s : State} (hs : s.canonical) (m : Mode) : (afterAddress m s).canonical := by
  simpa [State.canonical, afterAddress] using hs

theorem loc_of_storeAddr {m : Mode} {s : State} {ea : Word} (h : storeAddr m s = some ea) :
    (resolve m s).1.loc = .mem ea := by
  unfold storeAddr at h
  split at h
  · next hloc => cases h; exact hloc
  · cases h

/-- A store is one Bus write after the address is computed, and its count (R147). -/
theorem opStore_eq {m : Mode} {s : State} {ea : Word} (h : storeAddr m s = some ea) (v : Byte) (n : Nat) :
    opStore m v (.fixed n) s = ((afterAddress m s).setCycles n).write8 ea v := by
  have hw : writeM (resolve m s).1 v (afterAddress m s) = (afterAddress m s).write8 ea v := by
    rw [writeM, loc_of_storeAddr h]
  calc opStore m v (.fixed n) s
      = (writeM (resolve m s).1 v (afterAddress m s)).charge (.fixed n) (resolve m s).1.crossed := rfl
    _ = ((afterAddress m s).write8 ea v).setCycles n := by rw [hw]; rfl
    _ = (((afterAddress m s).write8 ea v).setSP (afterAddress m s).sp).setCycles n := by
      rw [← write8_sp (afterAddress m s) ea v]; rfl
    _ = ((afterAddress m s).setCycles n).write8 ea v := (write8_setSP_setCycles _ _ n ea v).symm

/-- Settles O31: every store runs one Bus write at the address of its mode. -/
theorem storesWriteOneByte : Obligations.StoresWriteOneByte := by
  intro i m s hs hm stores
  have store_of (v : Byte) (hv : storedByte s (mnemonicOf i) = some v) : stores v := by
    obtain ⟨hexec, ea, hea⟩ := exec_of_storedByte hm hv
    rw [opStore_eq hea] at hexec
    have hc : ((afterAddress m s).setCycles (costOf i).base).canonical := afterAddress_canonical hs m
    exact ⟨_, ea, hexec, hea, write8_stored hc ea v⟩
  refine ⟨afterAddress_onlyRead s m, fun h => ?_, fun h => ?_, fun h => ?_, fun h => ?_⟩
  · exact store_of s.a (by rw [h]; rfl)
  · exact store_of s.x (by rw [h]; rfl)
  · exact store_of s.y (by rw [h]; rfl)
  · exact store_of 0x00 (by rw [h]; rfl)

/-! ## The stack (R173 to R180) -/

/-- A push is one store in the state whose SP has moved on (R13, R23). -/
theorem push8_stored {s : State} (hs : s.canonical) (v : Byte) :
    Stored { s with sp := s.sp - 1, cycles := 3 } ((s.push8 v).charge (.fixed 3) false) (stackAddr s.sp) v := by
  have hpush : (s.push8 v).charge (.fixed 3) false =
      ((s.setSP (s.sp - 1)).setCycles 3).write8 (stackAddr s.sp) v :=
    (write8_setSP_setCycles s (s.sp - 1) 3 (stackAddr s.sp) v).symm
  have hc : ((s.setSP (s.sp - 1)).setCycles 3).canonical := hs
  exact hpush ▸ write8_stored hc (stackAddr s.sp) v

/-- Settles O33: each push is one store, and the flag byte is R33's. -/
theorem pushesStoreAtStackPointer : Obligations.PushesStoreAtStackPointer := fun s hs =>
  ⟨⟨_, rfl, push8_stored hs s.a⟩, ⟨_, rfl, push8_stored hs s.x⟩, ⟨_, rfl, push8_stored hs s.y⟩,
    ⟨_, rfl, push8_stored hs (s.pByte true)⟩, pByte_bits s true⟩

/-- A pull moves SP on and reads there; it stores nothing (R13, R23). -/
theorem pull8_eq (s : State) : s.pull8 = (s.busValue (stackAddr (s.sp + 1)),
    { s with sp := s.sp + 1, uartQueue := s.queueAfterRead (stackAddr (s.sp + 1)) }) := rfl

/-- Settles O34: each pull's meaning, with `Pull8` written out. -/
theorem pullsReadAtStackPointer : Obligations.PullsReadAtStackPointer := by
  intro s v q
  refine ⟨?_, ?_, ?_, ?_⟩
  · change execPla s = _; rw [execPla, pull8_eq]; rfl
  · change execPlx s = _; rw [execPlx, pull8_eq]; rfl
  · change execPly s = _; rw [execPly, pull8_eq]; rfl
  · change execPlp s = _; rw [execPlp, pull8_eq]; rfl

/-! ## Transfers and index steps (R167 to R172, R215 to R218) -/

/-- Settles O32: no Bus access is involved, so each meaning computes to the state of its row. -/
theorem transfersAndIndexSteps : Obligations.TransfersAndIndexSteps := fun _ =>
  ⟨rfl, rfl, rfl, rfl, rfl, rfl, rfl, rfl, rfl, rfl⟩

end Sys2Proof.Proofs.LoadStore
end

section
/-! Proofs of the family 42_arithmetic: compares (R209 to R212), and INC and DEC (R213, R214). -/

namespace Sys2Proof.Proofs.Arithmetic

open Sys2Proof.Machine Sys2Proof.Laws Sys2Proof.Proofs.LoadStore

/-! ## Compares (R209 to R212) -/

/-- The register that a compare's mnemonic compares; none for the other mnemonics. -/
def comparedRegister (s : State) : Mnemonic → Option Byte
  | .cmp => some s.a
  | .cpx => some s.x
  | .cpy => some s.y
  | _ => none

/-- Every row of a compare compares its mnemonic's register, with the mode and the cycle entry of the table. -/
theorem exec_of_comparedRegister {i : Instr} {m : Mode} {s : State} {r : Byte} (hm : modeOf i = some m)
    (hr : comparedRegister s (mnemonicOf i) = some r) :
    exec i s = .next (opCompare r m (costOf i) s) := by
  cases i with
  | cmpAbs | cmpAbsX | cmpAbsY | cmpImm | cmpZp | cmpZpInd | cmpZpIndY | cmpZpX | cmpZpXInd
  | cpxAbs | cpxImm | cpxZp | cpyAbs | cpyImm | cpyZp =>
    cases hm
    cases hr
    rw [costOf_of_encode rfl]
    rfl
  | _ => cases hr

/-- A compare sets C, Z and N and the count; all else is as after the operand's read (R209). -/
theorem opCompare_eq (r : Byte) (m : Mode) (k : Cost) (s : State) :
    opCompare r m k s = { afterOperand m s with
      flagC := decide ((operandValue m s).toNat ≤ r.toNat), flagZ := decide (r = operandValue m s)
      flagN := (r - operandValue m s).getLsbD 7
      cycles := k.total (resolve m s).1.crossed s.flagD } := by
  rw [← afterOperand_flagD m s]; rfl

/-- Settles O38: every compare's row runs `Compare` on its register. -/
theorem comparesSetNZC : Obligations.ComparesSetNZC := by
  intro i m s hm u v result
  have compares (r : Byte) (hr : comparedRegister s (mnemonicOf i) = some r) :
      exec i s = .next (result r) := by
    rw [exec_of_comparedRegister hm hr, opCompare_eq]; rfl
  refine ⟨afterOperand_onlyRead s m, fun h => ?_, fun h => ?_, fun h => ?_⟩
  · exact compares s.a (by rw [h]; rfl)
  · exact compares s.x (by rw [h]; rfl)
  · exact compares s.y (by rw [h]; rfl)

/-! ## A store under what follows it -/

section
variable {s t : State} {ea : Word} {v : Byte}

/-- N and Z set on both sides of a store leave it one store. -/
theorem stored_setNZ (h : Stored s t ea v) (r : Byte) : Stored (s.setNZ r) (t.setNZ r) ea v :=
  { h with rest := congrArg (·.setNZ r) h.rest }

/-- A count set on both sides of a store leaves it one store. -/
theorem stored_setCycles (h : Stored s t ea v) (n : Nat) : Stored (s.setCycles n) (t.setCycles n) ea v :=
  { h with rest := congrArg (·.setCycles n) h.rest }

end

/-! ## INC and DEC (R213, R214) -/

/-- The function on bytes of INC and of DEC; none for the other mnemonics. -/
def byteStep : Mnemonic → Option (Byte → Byte)
  | .inc => some (· + 1)
  | .dec => some (· - 1)
  | _ => none

/-- Every row of INC and DEC runs its mnemonic's function, with the mode and the cycle entry of the table, and
all rows but those of the accumulator have a store address. -/
theorem exec_of_byteStep {i : Instr} {m : Mode} {f : Byte → Byte} (s : State) (hm : modeOf i = some m)
    (hf : byteStep (mnemonicOf i) = some f) :
    exec i s = .next (opModify f m (costOf i) s) ∧
      (m ≠ .accumulator → ∃ ea, storeAddr m s = some ea) := by
  cases i with
  | incAcc | decAcc =>
    cases hm
    cases hf
    rw [costOf_of_encode rfl]
    exact ⟨rfl, fun h => absurd rfl h⟩
  | incAbs | incAbsX | incZp | incZpX | decAbs | decAbsX | decZp | decZpX =>
    cases hm
    cases hf
    rw [costOf_of_encode rfl]
    exact ⟨rfl, fun _ => ⟨_, rfl⟩⟩
  | _ => cases hf

theorem afterOperand_canonical {s : State} (hs : s.canonical) (m : Mode) : (afterOperand m s).canonical := by
  simpa [State.canonical, afterOperand] using hs

section
variable (f : Byte → Byte) (k : Cost)

/-- On the accumulator: A, N and Z, and the count (R131). -/
theorem opModify_accumulator (s : State) :
    opModify f .accumulator k s = { s with
      a := f s.a, flagN := (f s.a).getLsbD 7, flagZ := f s.a == 0, cycles := k.total false s.flagD } := rfl

/-- In memory: one Bus write after the operand is read, then N and Z, and the count (R147). -/
theorem opModify_memory {m : Mode} {s : State} {ea : Word} (h : storeAddr m s = some ea) :
    opModify f m k s =
      (((afterOperand m s).write8 ea (f (operandValue m s))).setNZ (f (operandValue m s))).setCycles
        (k.total (resolve m s).1.crossed s.flagD) := by
  have hw : writeM (resolve m s).1 (f (operandValue m s)) (afterOperand m s) =
      (afterOperand m s).write8 ea (f (operandValue m s)) := by
    rw [writeM, loc_of_storeAddr h]
  have charged : opModify f m k s =
      ((writeM (resolve m s).1 (f (operandValue m s)) (afterOperand m s)).setNZ
        (f (operandValue m s))).charge k (resolve m s).1.crossed := rfl
  rw [charged, hw, State.charge, setNZ_flagD, write8_flagD, afterOperand_flagD]

/-- In memory, a read-modify-write is one store in the state whose N, Z and count are set. -/
theorem opModify_stored {m : Mode} {s : State} {ea : Word} (hs : s.canonical)
    (h : storeAddr m s = some ea) :
    Stored (((afterOperand m s).setNZ (f (operandValue m s))).setCycles
      (k.total (resolve m s).1.crossed s.flagD)) (opModify f m k s) ea (f (operandValue m s)) := by
  rw [opModify_memory f k h]
  exact stored_setCycles (stored_setNZ (write8_stored (afterOperand_canonical hs m) ea _) _) _

end

/-- Settles O39: in A the new state is computed, in memory the row is one store at the address of its mode. -/
theorem incrementAndDecrement : Obligations.IncrementAndDecrement := by
  intro i m s hs hm u result
  have steps (f : Byte → Byte) (hf : byteStep (mnemonicOf i) = some f) :
      ∃ t, exec i s = .next t ∧
        (m = .accumulator → t = { result (f s.a) with a := f s.a }) ∧
        (m ≠ .accumulator → ∃ ea, storeAddr m s = some ea ∧
          Stored (result (f (operandValue m s))) t ea (f (operandValue m s))) := by
    obtain ⟨hexec, haddr⟩ := exec_of_byteStep s hm hf
    refine ⟨_, hexec, ?_, fun hmem => ?_⟩
    · rintro rfl
      rw [opModify_accumulator]; rfl
    · obtain ⟨ea, hea⟩ := haddr hmem
      exact ⟨ea, hea, opModify_stored f (costOf i) hs hea⟩
  refine ⟨afterOperand_onlyRead s m, fun h => ?_, fun h => ?_⟩
  · exact steps (· + 1) (by rw [h]; rfl)
  · exact steps (· - 1) (by rw [h]; rfl)

end Sys2Proof.Proofs.Arithmetic
end

section
/-! Proofs of the family 43_logic_bit: AND, ORA, EOR, BIT, TSB, TRB, the shifts and rotates, and RMBn and SMBn
(R240 to R251). -/

namespace Sys2Proof.Proofs.Logic

open Sys2Proof.Machine Sys2Proof.Laws Sys2Proof.Proofs.LoadStore Sys2Proof.Proofs.Arithmetic

/-! ## What the shared operations of the family build on -/

theorem afterOperand_a (m : Mode) (s : State) : (afterOperand m s).a = s.a := by simp [afterOperand]

/-- `WriteM` is one store at the address of the mode, in whatever state it is made (R147). -/
theorem writeM_stored {m : Mode} {s u : State} {ea : Word} (h : storeAddr m s = some ea) (hu : u.canonical)
    (v : Byte) : Stored u (writeM (resolve m s).1 v u) ea v := by
  have hw : writeM (resolve m s).1 v u = u.write8 ea v := by rw [writeM, loc_of_storeAddr h]
  exact hw ▸ write8_stored hu ea v

/-- A count charged on both sides of a store leaves it one store: no store reaches D. -/
theorem stored_charge {s t : State} {ea : Word} {v : Byte} (h : Stored s t ea v) (k : Cost) (c : Bool) :
    Stored (s.charge k c) (t.charge k c) ea v := by
  have hd : t.flagD = s.flagD := by rw [h.rest]
  rw [State.charge, State.charge, hd]
  exact stored_setCycles h _

/-! ## AND, ORA, EOR (R240 to R242) -/

/-- The function on bytes of AND, ORA and EOR; none for the other mnemonics. -/
def logicFunction : Mnemonic → Option (Byte → Byte → Byte)
  | .and => some (· &&& ·)
  | .ora => some (· ||| ·)
  | .eor => some (· ^^^ ·)
  | _ => none

/-- Every row of AND, ORA and EOR runs its mnemonic's function, with the mode and the cycle entry of the
table. -/
theorem exec_of_logicFunction {i : Instr} {m : Mode} {f : Byte → Byte → Byte} (s : State)
    (hm : modeOf i = some m) (hf : logicFunction (mnemonicOf i) = some f) :
    exec i s = .next (opLogic f m (costOf i) s) := by
  cases i with
  | andAbs | andAbsX | andAbsY | andImm | andZp | andZpInd | andZpIndY | andZpX | andZpXInd
  | oraAbs | oraAbsX | oraAbsY | oraImm | oraZp | oraZpInd | oraZpIndY | oraZpX | oraZpXInd
  | eorAbs | eorAbsX | eorAbsY | eorImm | eorZp | eorZpInd | eorZpIndY | eorZpX | eorZpXInd =>
    cases hm
    cases hf
    rw [costOf_of_encode rfl]
    rfl
  | _ => cases hf

/-- A logic operation sets A, N and Z and the count; all else is as after the operand's read. -/
theorem opLogic_eq (f : Byte → Byte → Byte) (m : Mode) (k : Cost) (s : State) :
    opLogic f m k s = { afterOperand m s with
      a := f s.a (operandValue m s)
      flagN := (f s.a (operandValue m s)).getLsbD 7, flagZ := f s.a (operandValue m s) == 0
      cycles := k.total (resolve m s).1.crossed s.flagD } := by
  rw [← afterOperand_flagD m s]; rfl

/-- Settles O40: every row of the three runs one function on A and the operand. -/
theorem logicSetsANZ : Obligations.LogicSetsANZ := by
  intro i m s hm u v result
  have sets (f : Byte → Byte → Byte) (hf : logicFunction (mnemonicOf i) = some f) :
      exec i s = .next (result (f s.a v)) := by
    rw [exec_of_logicFunction s hm hf, opLogic_eq]; rfl
  refine ⟨afterOperand_onlyRead s m, fun h => ?_, fun h => ?_, fun h => ?_⟩
  · exact sets (· &&& ·) (by rw [h]; rfl)
  · exact sets (· ||| ·) (by rw [h]; rfl)
  · exact sets (· ^^^ ·) (by rw [h]; rfl)

/-! ## BIT (R243) -/

/-- Every row of BIT runs `opBit`, with the mode and the cycle entry of the table. -/
theorem exec_of_bit {i : Instr} {m : Mode} (s : State) (hb : mnemonicOf i = .bit) (hm : modeOf i = some m) :
    exec i s = .next (opBit m (costOf i) s) := by
  cases i with
  | bitAbs | bitAbsX | bitImm | bitZp | bitZpX =>
    cases hm
    rw [costOf_of_encode rfl]
    rfl
  | _ => cases hb

theorem isImmediate_eq_false {m : Mode} (h : ∀ w, m ≠ .immediate w) : m.isImmediate = false := by
  cases m with
  | immediate v => exact absurd rfl (h v)
  | _ => rfl

section
variable (k : Cost) (s : State)

/-- The immediate form sets Z and the count only. -/
theorem opBit_immediate (w : Byte) :
    opBit (.immediate w) k s = { afterOperand (.immediate w) s with
      flagZ := s.a &&& w == 0, cycles := k.total false s.flagD } := rfl

/-- The other forms set N and V too, from bits 7 and 6 of the operand. -/
theorem opBit_memory {m : Mode} (h : ∀ w, m ≠ .immediate w) :
    opBit m k s = { afterOperand m s with
      flagZ := s.a &&& operandValue m s == 0
      flagN := (operandValue m s).getLsbD 7, flagV := (operandValue m s).getLsbD 6
      cycles := k.total (resolve m s).1.crossed s.flagD } := by
  have tested : opBit m k s = ((afterOperand m s).bitTest (operandValue m s) m.isImmediate).charge k
      (resolve m s).1.crossed := rfl
  rw [tested, isImmediate_eq_false h, ← afterOperand_flagD m s, ← afterOperand_a m s]
  rfl

end

/-- Settles O41, by the two forms of BIT. -/
theorem bitTestsFlags : Obligations.BitTestsFlags := by
  intro i m s hb hm u v
  refine ⟨afterOperand_onlyRead s m, ?_, fun hmem => ?_⟩
  · rintro ⟨w, rfl⟩
    rw [exec_of_bit s hb hm, opBit_immediate]; rfl
  · rw [exec_of_bit s hb hm, opBit_memory (costOf i) s hmem]; rfl

/-! ## TSB and TRB (R244, R245) -/

/-- The byte that TSB and TRB store, from A and the byte read; none for the other mnemonics. -/
def testFunction : Mnemonic → Option (Byte → Byte → Byte)
  | .tsb => some fun a v => v ||| a
  | .trb => some fun a v => v &&& (a ^^^ 0xFF)
  | _ => none

/-- Every row of TSB and TRB has a store address and no penalty in its cycle entry (R431). -/
theorem exec_of_testFunction {i : Instr} {m : Mode} {f : Byte → Byte → Byte} (s : State)
    (hm : modeOf i = some m) (hf : testFunction (mnemonicOf i) = some f) :
    exec i s = .next (opTestModify f m (.fixed (costOf i).base) s) ∧ ∃ ea, storeAddr m s = some ea := by
  cases i with
  | tsbAbs | tsbZp | trbAbs | trbZp =>
    cases hm
    cases hf
    rw [costOf_of_encode rfl]
    exact ⟨rfl, _, rfl⟩
  | _ => cases hf

/-- TSB and TRB are one store in the state whose Z and count are set: Z is from the byte before it. -/
theorem opTestModify_stored (f : Byte → Byte → Byte) (n : Nat) {m : Mode} {s : State} {ea : Word}
    (hs : s.canonical) (h : storeAddr m s = some ea) :
    Stored { afterOperand m s with flagZ := s.a &&& operandValue m s == 0, cycles := n }
      (opTestModify f m (.fixed n) s) ea (f s.a (operandValue m s)) := by
  have hu : ((afterOperand m s).setZ (s.a &&& operandValue m s == 0)).canonical := afterOperand_canonical hs m
  exact stored_charge (writeM_stored h hu _) (.fixed n) (resolve m s).1.crossed

/-- Settles O42: TSB and TRB are one store of their function of A and the byte read. -/
theorem testAndSetOrReset : Obligations.TestAndSetOrReset := by
  intro i m s hs hm v u
  have stores (f : Byte → Byte → Byte) (hf : testFunction (mnemonicOf i) = some f) :
      ∃ t ea, exec i s = .next t ∧ storeAddr m s = some ea ∧ Stored u t ea (f s.a v) := by
    obtain ⟨hexec, ea, hea⟩ := exec_of_testFunction s hm hf
    exact ⟨_, ea, hexec, hea, opTestModify_stored f (costOf i).base hs hea⟩
  refine ⟨afterOperand_onlyRead s m, fun h => ?_, fun h => ?_⟩
  · exact stores (fun a v => v ||| a) (by rw [h]; rfl)
  · have hnot : ~~~s.a = s.a ^^^ 0xFF := (BitVec.xor_allOnes (x := s.a)).symm
    rw [hnot]
    exact stores (fun a v => v &&& (a ^^^ 0xFF)) (by rw [h]; rfl)

/-! ## Shifts and rotates (R246 to R249) -/

/-- The shift of a mnemonic with carry `c` coming in; none for the other mnemonics. -/
def shiftFunction (c : Bool) : Mnemonic → Option (Byte → ShiftOut)
  | .asl => some shiftAsl
  | .lsr => some shiftLsr
  | .rol => some (shiftRol c)
  | .ror => some (shiftRor c)
  | _ => none

/-- Every row of a shift runs its mnemonic's function, with the mode and the cycle entry of the table, and all
rows but those of the accumulator have a store address. -/
theorem exec_of_shiftFunction {i : Instr} {m : Mode} {s : State} {f : Byte → ShiftOut}
    (hm : modeOf i = some m) (hf : shiftFunction s.flagC (mnemonicOf i) = some f) :
    exec i s = .next (opShift f m (costOf i) s) ∧ (m ≠ .accumulator → ∃ ea, storeAddr m s = some ea) := by
  cases i with
  | aslAcc | lsrAcc | rolAcc | rorAcc =>
    cases hm
    cases hf
    rw [costOf_of_encode rfl]
    exact ⟨rfl, fun h => absurd rfl h⟩
  | aslAbs | aslAbsX | aslZp | aslZpX | lsrAbs | lsrAbsX | lsrZp | lsrZpX
  | rolAbs | rolAbsX | rolZp | rolZpX | rorAbs | rorAbsX | rorZp | rorZpX =>
    cases hm
    cases hf
    rw [costOf_of_encode rfl]
    exact ⟨rfl, fun _ => ⟨_, rfl⟩⟩
  | _ => cases hf

section
variable (f : Byte → ShiftOut) (k : Cost)

/-- On the accumulator: A, C, N and Z, and the count (R131). -/
theorem opShift_accumulator (s : State) :
    opShift f .accumulator k s = { s with
      a := (f s.a).r, flagC := (f s.a).c, flagN := (f s.a).r.getLsbD 7, flagZ := (f s.a).r == 0
      cycles := k.total false s.flagD } := rfl

/-- In memory, a shift is one store in the state whose C, N, Z and count are set. -/
theorem opShift_stored {m : Mode} {s : State} {ea : Word} (hs : s.canonical)
    (h : storeAddr m s = some ea) :
    Stored { afterOperand m s with
        flagC := (f (operandValue m s)).c
        flagN := (f (operandValue m s)).r.getLsbD 7, flagZ := (f (operandValue m s)).r == 0
        cycles := k.total (resolve m s).1.crossed s.flagD }
      (opShift f m k s) ea (f (operandValue m s)).r := by
  have hu : ((afterOperand m s).setC (f (operandValue m s)).c).canonical := afterOperand_canonical hs m
  rw [← afterOperand_flagD m s]
  exact stored_charge (stored_setNZ (writeM_stored h hu _) _) k (resolve m s).1.crossed

end

/-- Every bit after a rotate left: the carry comes in at bit 0 (R248). -/
theorem getLsbD_shiftRol (c : Bool) (v : Byte) {k : Nat} (hk : k < 8) :
    (shiftRol c v).r.getLsbD k = if k = 0 then c else v.getLsbD (k - 1) := by
  cases k with
  | zero => simp [shiftRol]
  | succ k => simp [shiftRol, hk, Nat.lt_of_succ_lt hk]

/-- Every bit after a rotate right: the carry comes in at bit 7 (R249). -/
theorem getLsbD_shiftRor (c : Bool) (v : Byte) {k : Nat} (hk : k < 8) :
    (shiftRor c v).r.getLsbD k = if k = 7 then c else v.getLsbD (k + 1) := by
  by_cases h7 : k = 7
  · simp [shiftRor, h7]
  · have low : k < 7 := by omega
    simp [shiftRor, h7, low, Nat.add_comm]

/-- ASL is a rotate left of a clear carry. -/
theorem shiftAsl_eq_shiftRol (v : Byte) : shiftAsl v = shiftRol false v := by simp [shiftAsl, shiftRol]

/-- LSR is a rotate right of a clear carry. -/
theorem shiftLsr_eq_shiftRor (v : Byte) : shiftLsr v = shiftRor false v := by simp [shiftLsr, shiftRor]

/-- Settles O43: in A the new state is computed, in memory the row is one store; the bits are the rotates'. -/
theorem shiftsAndRotates : Obligations.ShiftsAndRotates := by
  intro i m s hs hm u v ends
  have shifts (f : Byte → ShiftOut) (hf : shiftFunction s.flagC (mnemonicOf i) = some f) :
      ends (f v).r (f v).c := by
    obtain ⟨hexec, haddr⟩ := exec_of_shiftFunction hm hf
    refine ⟨_, hexec, ?_, fun hmem => ?_⟩
    · rintro rfl
      rw [opShift_accumulator]; rfl
    · obtain ⟨ea, hea⟩ := haddr hmem
      exact ⟨ea, hea, opShift_stored f (costOf i) hs hea⟩
  refine ⟨afterOperand_onlyRead s m, fun h => ?_, fun h => ?_, fun h => ?_, fun h => ?_⟩
  · refine ⟨_, shifts shiftAsl (by rw [h]; rfl), fun k hk => ?_⟩
    rw [shiftAsl_eq_shiftRol, getLsbD_shiftRol false v hk]
  · refine ⟨_, shifts shiftLsr (by rw [h]; rfl), fun k hk => ?_⟩
    rw [shiftLsr_eq_shiftRor, getLsbD_shiftRor false v hk]
  · exact ⟨_, shifts (shiftRol s.flagC) (by rw [h]; rfl), fun k hk => getLsbD_shiftRol s.flagC v hk⟩
  · exact ⟨_, shifts (shiftRor s.flagC) (by rw [h]; rfl), fun k hk => getLsbD_shiftRor s.flagC v hk⟩

/-! ## RMBn and SMBn (R250, R251) -/

/-- `v` with bit `n` set to `b`, as RMBn (`b` false) and SMBn (`b` true) compute it. -/
def putBit (b : Bool) (n : Fin 8) (v : Byte) : Byte := if b then v ||| bitMask n else v &&& ~~~(bitMask n)

theorem getLsbD_bitMask (n k : Fin 8) : (bitMask n).getLsbD k = decide (k = n) := by
  revert n k
  decide

theorem getLsbD_putBit (b : Bool) (n k : Fin 8) (v : Byte) :
    (putBit b n v).getLsbD k = if k = n then b else v.getLsbD k := by
  cases b with
  | false =>
    rw [putBit, if_neg Bool.false_ne_true, BitVec.getLsbD_and, BitVec.getLsbD_not, getLsbD_bitMask]
    by_cases h : k = n <;> simp [h]
  | true =>
    rw [putBit, if_pos rfl, BitVec.getLsbD_or, getLsbD_bitMask]
    by_cases h : k = n <;> simp [h]

/-- Every row of RMBn and SMBn puts its bit into a zero-page byte, in 5 cycles. -/
theorem exec_of_bitMnemonic {i : Instr} {n : Fin 8} {b : Bool} (s : State)
    (h : mnemonicOf i = if b then .smb n else .rmb n) :
    ∃ z, modeOf i = some (.zp z) ∧ exec i s = .next (opBitModify (putBit b n) (.zp z) (.fixed 5) s) := by
  cases b with
  | false =>
    cases i with
    | rmb0 z | rmb1 z | rmb2 z | rmb3 z | rmb4 z | rmb5 z | rmb6 z | rmb7 z =>
      cases h
      exact ⟨z, rfl, rfl⟩
    | _ => cases h
  | true =>
    cases i with
    | smb0 z | smb1 z | smb2 z | smb3 z | smb4 z | smb5 z | smb6 z | smb7 z =>
      cases h
      exact ⟨z, rfl, rfl⟩
    | _ => cases h

/-- RMBn and SMBn are one store in the state whose count is set. -/
theorem opBitModify_stored (f : Byte → Byte) (n : Nat) {m : Mode} {s : State} {ea : Word} (hs : s.canonical)
    (h : storeAddr m s = some ea) :
    Stored { afterOperand m s with cycles := n } (opBitModify f m (.fixed n) s) ea (f (operandValue m s)) :=
  stored_charge (writeM_stored h (afterOperand_canonical hs m) _) (.fixed n) (resolve m s).1.crossed

/-- Settles O44: each row is one store of the byte read with one bit put. -/
theorem bitResetAndSet : Obligations.BitResetAndSet := by
  intro i n b s hs h
  obtain ⟨z, hm, hexec⟩ := exec_of_bitMnemonic s h
  exact ⟨z, putBit b n (operandValue (.zp z) s), _, hm, hexec, afterOperand_onlyRead s (.zp z),
    opBitModify_stored (putBit b n) 5 hs rfl, fun k => getLsbD_putBit b n k _⟩

end Sys2Proof.Proofs.Logic
end

section
/-! Proofs of the family 44_control: branches, jumps, RTS, BRK and RTI (R280 to R297), and the entry through a
vector (R355, R356). -/

namespace Sys2Proof.Proofs.Control

open Sys2Proof.Machine Sys2Proof.Laws Sys2Proof.Proofs.Memory Sys2Proof.Proofs.LoadStore

/-! ## Branches (R280 to R291) -/

/-- What a branch does, in the words of R432: the target is the next instruction plus the displacement read as
two's complement, and only a taken branch to another page costs two cycles more. -/
theorem branchIf_eq (s : State) (taken : Bool) (d : Byte) (base : Nat) :
    s.branchIf taken d base =
      if taken then { s with
        pc := s.pc + BitVec.ofInt 16 d.toInt
        cycles := if hi8 s.pc = hi8 (s.pc + BitVec.ofInt 16 d.toInt) then base + 1 else base + 2 }
      else { s with cycles := base } := by
  cases taken with
  | false => rfl
  | true =>
    have count : (base + 1 + if pageCrossed s.pc (s.pc + sext16 d) then 1 else 0) =
        if hi8 s.pc = hi8 (s.pc + sext16 d) then base + 1 else base + 2 := by
      by_cases h : hi8 s.pc = hi8 (s.pc + sext16 d) <;> simp [pageCrossed, h]
    rw [branchIf_frame, if_pos rfl, if_pos rfl, count]
    rfl

/-- Settles O45: each row is one fetch and `branchIf` under its flag. -/
theorem conditionalBranches : Obligations.ConditionalBranches := by
  intro s d u target went
  have branch (taken : Bool) : opBranch taken d s = went taken := branchIf_eq s.operandFetch taken d 2
  refine ⟨operandFetch_onlyRead s, ?_⟩
  simp only [← branch]
  exact ⟨rfl, rfl, rfl, rfl, rfl, rfl, rfl, rfl⟩

/-- Every row of BBRn and BBSn branches on its bit, with its two operand bytes behind the opcode. -/
theorem exec_of_bitBranchMnemonic {i : Instr} {n : Fin 8} {b : Bool} (s : State)
    (h : mnemonicOf i = if b then .bbs n else .bbr n) :
    ∃ z d, encode i = [opcodeOf i, z, d] ∧ exec i s = .next (opBitBranch n b z d s) := by
  cases b with
  | false =>
    cases i with
    | bbr0 z d | bbr1 z d | bbr2 z d | bbr3 z d | bbr4 z d | bbr5 z d | bbr6 z d | bbr7 z d =>
      cases h
      exact ⟨z, d, rfl, rfl⟩
    | _ => cases h
  | true =>
    cases i with
    | bbs0 z d | bbs1 z d | bbs2 z d | bbs3 z d | bbs4 z d | bbs5 z d | bbs6 z d | bbs7 z d =>
      cases h
      exact ⟨z, d, rfl, rfl⟩
    | _ => cases h

/-- The accesses of a bit branch in their order: the zero-page address, its byte, the displacement (R290). -/
theorem bitBranch_onlyRead (s : State) (z : Byte) :
    OnlyRead s (s.operandFetch.read8 (zext16 z)).2.operandFetch 2 :=
  onlyRead_trans (onlyRead_trans (operandFetch_onlyRead s) (read8_onlyRead _ _)) (operandFetch_onlyRead _)

/-- Settles O46: BRA is `branchIf` always taken, a bit branch is `branchIf` under its bit test. -/
theorem branchAlwaysAndOnBit : Obligations.BranchAlwaysAndOnBit := by
  refine ⟨fun s d => ?_, fun i n b s h => ?_⟩
  · exact congrArg Host.Outcome.next (branchIf_eq s.operandFetch true d 2)
  · obtain ⟨z, d, hencode, hexec⟩ := exec_of_bitBranchMnemonic s h
    refine ⟨z, d, hencode, bitBranch_onlyRead s z, ?_⟩
    have hpc : (s.operandFetch.read8 (zext16 z)).2.operandFetch.pc = s.pc + 2 :=
      congrArg State.pc (bitBranch_onlyRead s z).1
    rw [hexec, opBitBranch, branchIf_eq, hpc]
    simp only [beq_iff_eq, read8_value]

/-! ## Jumps (R292, R293) -/

theorem read16_value (s : State) (a : Word) :
    (s.read16 a).1 = joinBytes ((s.read8 a).2.busValue (a + 1)) (s.busValue a) := rfl

/-- A jump goes to the address that its mode computes, and sets nothing else but the count. -/
theorem opJmp_eq {m : Mode} {s : State} {ea : Word} (h : storeAddr m s = some ea) (n : Nat) :
    opJmp m (.fixed n) s = { afterAddress m s with pc := ea, cycles := n } := by
  have target : (resolve m s).1.target = ea := by rw [Operand.target, loc_of_storeAddr h]
  rw [← target]
  rfl

/-- Settles O47, by the address of each of the three modes. -/
theorem jumpsSetPc : Obligations.JumpsSetPc := by
  intro s w u
  have fetched : OnlyRead s u 2 := operandFetch_twice_onlyRead s
  refine ⟨fetched, onlyRead_trans fetched (read16_onlyRead u w), onlyRead_trans fetched (read16_onlyRead u _),
    ?_, ?_, ?_⟩
  · exact congrArg Host.Outcome.next (opJmp_eq (m := .abs w) rfl 3)
  · rw [← read16_value]
    exact congrArg Host.Outcome.next (opJmp_eq (m := .absInd w) rfl 6)
  · rw [← read16_value]
    exact congrArg Host.Outcome.next (opJmp_eq (m := .absXInd w) rfl 6)

/-! ## Pulls: RTS and RTI (R295, R297) -/

theorem pull8_queue_suffix (s : State) : s.pull8.2.uartQueue <:+ s.uartQueue :=
  queueAfterRead_suffix (s.setSP (s.sp + 1)) _

theorem pull16_queue_suffix (s : State) : s.pull16.2.uartQueue <:+ s.uartQueue :=
  (pull8_queue_suffix s.pull8.2).trans (pull8_queue_suffix s)

/-- A pulled word moves SP by 2 and stores nothing. -/
theorem pull16_eq (s : State) : s.pull16 = (joinBytes s.pull8.2.pull8.1 s.pull8.1,
    { s with sp := s.sp + 2, uartQueue := s.pull16.2.uartQueue }) := by
  have hsp : s.sp + 2 = s.sp + 1 + 1 := (BitVec.add_assoc s.sp 1 1).symm
  rw [hsp]
  rfl

/-- Settles O49, by the equation of a pulled word. -/
theorem rtsReturnsPastPulledAddress : Obligations.RtsReturnsPastPulledAddress := by
  intro s
  have whole : opRts (.fixed 6) s = { s with
      pc := joinBytes s.pull8.2.pull8.1 s.pull8.1 + 1, sp := s.sp + 2
      uartQueue := s.pull16.2.uartQueue, cycles := 6 } := by
    rw [opRts, pull16_eq]; rfl
  exact ⟨_, rfl, rfl, whole, pull16_queue_suffix s⟩

/-- The Bus sees no flag, so pulling a word and setting the flags commute. -/
theorem pull16_setP (s : State) (v : Byte) : (s.setP v).pull16 = (s.pull16.1, s.pull16.2.setP v) := rfl

/-- RTI writes the six flags, PC and SP, and may take bytes off the UART queue. -/
theorem returnFromInterrupt_eq (s : State) : s.returnFromInterrupt = { s.setP s.pull8.1 with
    pc := s.pull8.2.pull16.1, sp := s.sp + 3, uartQueue := s.pull8.2.pull16.2.uartQueue } := by
  have hsp : s.sp + 3 = s.sp + 1 + 2 := (BitVec.add_assoc s.sp 1 2).symm
  rw [State.returnFromInterrupt, pull16_setP, pull16_eq, hsp]
  rfl

/-- Settles O25, by the equation of the return. -/
theorem rtiRestoresFlagsAndPc : Obligations.RtiRestoresFlagsAndPc := by
  intro s
  have hexec : exec .rti s = .next (s.returnFromInterrupt.setCycles 6) := rfl
  rw [returnFromInterrupt_eq] at hexec
  exact ⟨_, hexec, rfl, rfl, rfl, rfl, rfl, rfl, rfl, rfl, rfl, rfl, rfl, rfl, rfl, rfl⟩

/-! ## `OnlyControl` along the operations of an entry -/

theorem onlyControl_trans {s t u : State} (hst : OnlyControl s t) (htu : OnlyControl t u) :
    OnlyControl s u := by
  unfold OnlyControl at hst htu ⊢
  rw [htu, hst]

theorem push8_onlyControl (s : State) (v : Byte) : OnlyControl s (s.push8 v) := by
  unfold OnlyControl State.push8
  rw [write8_frame]
  rfl

theorem entryPushed_onlyControl (s : State) (b : Bool) : OnlyControl s (s.entryPushed b) :=
  onlyControl_trans (onlyControl_trans (push8_onlyControl s _) (push8_onlyControl _ _)) (push8_onlyControl _ _)

theorem loadVector_onlyControl (s : State) (k : VectorKind) : OnlyControl s (s.loadVector k) := by
  cases h : k.override s.cfg with
  | none => rw [loadVector_read s k h]; rfl
  | some w => rw [loadVector_override s k w h]; rfl

/-! ## The three pushes of an entry (R355) -/

/-- A Bus write changes one byte of memory at most, in any memory (R55). -/
theorem write8_mem_other (s : State) {a : Word} {n : Nat} (v : Byte) (h : n ≠ a.toNat) :
    (s.write8 a v).mem.read n = s.mem.read n := by
  rcases write8_cases s a v with ⟨_, hw⟩ | ⟨_, _, hw⟩ | ⟨_, hw⟩ | ⟨_, hw⟩ | ⟨_, _, _, _, hw⟩ <;> rw [hw]
  exact read_write_other s.mem _ _ v h

theorem push8_mem_other (s : State) {n : Nat} (v : Byte) (h : n ≠ (stackAddr s.sp).toNat) :
    (s.push8 v).mem.read n = s.mem.read n := write8_mem_other s v h

/-- On a stack in RAM a push is one write of memory. -/
theorem push8_of_stackIsRam {s : State} (h : s.stackIsRam) (v : Byte) :
    s.push8 v = { s with sp := s.sp - 1, mem := s.mem.write (stackAddr s.sp).toNat v } := by
  unfold State.push8 State.write8
  rw [h s.sp]
  rfl

theorem push8_stackIsRam {s : State} (h : s.stackIsRam) (v : Byte) : (s.push8 v).stackIsRam :=
  fun p => (push8_regionAt s v (stackAddr p)).trans (h p)

theorem push8_pByte (s : State) (v : Byte) (b : Bool) : (s.push8 v).pByte b = s.pByte b := by
  unfold State.push8
  rw [write8_frame]
  rfl

theorem stackAddr_toNat (p : Byte) : (stackAddr p).toNat = 0x100 + p.toNat := by
  have hp := p.isLt
  simp only [stackAddr, zext16, BitVec.toNat_add, BitVec.toNat_setWidth, BitVec.toNat_ofNat]
  omega

theorem stackAddr_toNat_ne {p q : Byte} (h : p ≠ q) : (stackAddr p).toNat ≠ (stackAddr q).toNat :=
  fun e => h (stackAddr_inj p q (BitVec.eq_of_toNat_eq e))

section
variable {s : State} (b : Bool)

theorem entryPushed_cfg (s : State) : (s.entryPushed b).cfg = s.cfg := by simp [State.entryPushed]

theorem entryPushed_uartQueue (s : State) : (s.entryPushed b).uartQueue = s.uartQueue := by
  simp [State.entryPushed]

theorem entryPushed_mem_other {n : Nat} (hhi : n ≠ (stackAddr s.sp).toNat)
    (hlo : n ≠ (stackAddr (s.sp - 1)).toNat) (hp : n ≠ (stackAddr (s.sp - 2)).toNat) :
    (s.entryPushed b).mem.read n = s.mem.read n := by
  have hsp : s.sp - 2 = s.sp - 1 - 1 := by bv_omega
  rw [hsp] at hp
  calc (s.entryPushed b).mem.read n
      = ((s.push8 (hi8 s.pc)).push8 (lo8 s.pc)).mem.read n := push8_mem_other _ _ hp
    _ = (s.push8 (hi8 s.pc)).mem.read n := push8_mem_other _ _ hlo
    _ = s.mem.read n := push8_mem_other s _ hhi

/-- On a stack in RAM the three pushes are three writes of memory. -/
theorem entryPushed_of_stackIsRam (h : s.stackIsRam) :
    s.entryPushed b = { s with
      sp := s.sp - 1 - 1 - 1
      mem := ((s.mem.write (stackAddr s.sp).toNat (hi8 s.pc)).write
        (stackAddr (s.sp - 1)).toNat (lo8 s.pc)).write (stackAddr (s.sp - 1 - 1)).toNat (s.pByte b) } := by
  have ram_first := push8_stackIsRam h (hi8 s.pc)
  have ram_second := push8_stackIsRam ram_first (lo8 s.pc)
  rw [State.entryPushed, push8_of_stackIsRam ram_second, push8_of_stackIsRam ram_first, push8_of_stackIsRam h]

/-- On a stack in RAM the three bytes stand at their places: no push overwrites an earlier one (R23). -/
theorem entryPushed_mem_stack (h : s.stackIsRam) (hs : s.mem.wf = true) :
    (s.entryPushed b).mem.read (stackAddr s.sp).toNat = hi8 s.pc ∧
    (s.entryPushed b).mem.read (stackAddr (s.sp - 1)).toNat = lo8 s.pc ∧
    (s.entryPushed b).mem.read (stackAddr (s.sp - 2)).toNat = s.pByte b := by
  have hsp : s.sp - 2 = s.sp - 1 - 1 := by bv_omega
  have first_second : (stackAddr s.sp).toNat ≠ (stackAddr (s.sp - 1)).toNat :=
    stackAddr_toNat_ne (by bv_omega)
  have first_third : (stackAddr s.sp).toNat ≠ (stackAddr (s.sp - 1 - 1)).toNat :=
    stackAddr_toNat_ne (by bv_omega)
  have second_third : (stackAddr (s.sp - 1)).toNat ≠ (stackAddr (s.sp - 1 - 1)).toNat :=
    stackAddr_toNat_ne (by bv_omega)
  have wf_first := wf_write _ _ (hi8 s.pc) (stackAddr s.sp).isLt hs
  have wf_second := wf_write _ _ (lo8 s.pc) (stackAddr (s.sp - 1)).isLt wf_first
  rw [entryPushed_of_stackIsRam b h, hsp]
  refine ⟨?_, ?_, ?_⟩
  · rw [read_write_other _ _ _ _ first_third, read_write_other _ _ _ _ first_second, read_write_same _ _ _ hs]
  · rw [read_write_other _ _ _ _ second_third, read_write_same _ _ _ wf_first]
  · exact read_write_same _ _ _ wf_second

end

/-! ## The entry through a vector (R355, R356) -/

theorem vector_ne_stackAddr (k : VectorKind) (p : Byte) :
    k.addr.toNat ≠ (stackAddr p).toNat ∧ (k.addr + 1).toNat ≠ (stackAddr p).toNat := by
  have hp := p.isLt
  rw [stackAddr_toNat]
  cases k <;> simp [VectorKind.addr] <;> omega

/-- A plain address shows the same byte in any state that has the platform and that byte of memory. -/
theorem busValue_of_plainAt {s t : State} {a : Word} (h : s.plainAt a) (hcfg : t.cfg = s.cfg)
    (hmem : t.mem.read a.toNat = s.mem.read a.toNat) : t.busValue a = s.busValue a := by
  unfold State.busValue
  rw [regionAt_of_cfg hcfg a]
  rcases h with h | h | h <;> simp [h, hmem]

theorem queueAfterRead_of_plainAt {s : State} {a : Word} (h : s.plainAt a) :
    s.queueAfterRead a = s.uartQueue := by
  unfold State.queueAfterRead
  rcases h with h | h | h <;> rw [h]

theorem plainAt_of_cfg {s t : State} {a : Word} (h : s.plainAt a) (hcfg : t.cfg = s.cfg) : t.plainAt a := by
  unfold State.plainAt
  rwa [regionAt_of_cfg hcfg a]

/-- A word at two plain addresses is their two bytes, and no queue byte is lost. -/
theorem read16_of_plainAt {s : State} {a : Word} (h : s.plainAt a) (h' : s.plainAt (a + 1)) :
    (s.read16 a).1 = joinBytes (s.busValue (a + 1)) (s.busValue a) ∧
      (s.read16 a).2.uartQueue = s.uartQueue := by
  have plain_next : (s.read8 a).2.plainAt (a + 1) := plainAt_of_cfg h' rfl
  refine ⟨?_, ?_⟩
  · rw [read16_value, busValue_of_plainAt (t := (s.read8 a).2) h' rfl rfl]
  · exact (queueAfterRead_of_plainAt plain_next).trans (queueAfterRead_of_plainAt h)

/-- No push of an entry reaches a plain vector: the stack page holds no vector (R60). -/
theorem entryPushed_busValue_vector {s : State} (b : Bool) (k : VectorKind) (h : s.plainAt k.addr)
    (h' : s.plainAt (k.addr + 1)) : (s.entryPushed b).busValue k.addr = s.busValue k.addr ∧
      (s.entryPushed b).busValue (k.addr + 1) = s.busValue (k.addr + 1) := by
  refine ⟨busValue_of_plainAt h (entryPushed_cfg b s) ?_, busValue_of_plainAt h' (entryPushed_cfg b s) ?_⟩
  · exact entryPushed_mem_other b (vector_ne_stackAddr k _).1 (vector_ne_stackAddr k _).1
      (vector_ne_stackAddr k _).1
  · exact entryPushed_mem_other b (vector_ne_stackAddr k _).2 (vector_ne_stackAddr k _).2
      (vector_ne_stackAddr k _).2

section
variable (s : State) (k : VectorKind) (b : Bool)

/-- The pushed flag byte is that of the flags before the pushes: no push changes a flag. -/
theorem enterVector_eq :
    s.enterVector k b = (((s.entryPushed b).setI true).setD false).loadVector k := by
  have hp : (s.push16 s.pc).pByte b = s.pByte b := (push8_pByte _ _ b).trans (push8_pByte s _ b)
  rw [State.enterVector, hp]
  rfl

theorem enterVector_onlyControl : OnlyControl s (s.enterVector k b) := by
  have flags : OnlyControl (s.entryPushed b) (((s.entryPushed b).setI true).setD false) := rfl
  rw [enterVector_eq]
  exact onlyControl_trans (onlyControl_trans (entryPushed_onlyControl s b) flags) (loadVector_onlyControl _ k)

/-- An entry stores what the three pushes store. -/
theorem enterVector_stores :
    (s.enterVector k b).mem = (s.entryPushed b).mem ∧ (s.enterVector k b).videoBuf = (s.entryPushed b).videoBuf ∧
    (s.enterVector k b).kbdRowSel = (s.entryPushed b).kbdRowSel ∧
    (s.enterVector k b).bankSel = (s.entryPushed b).bankSel := by
  simp [enterVector_eq]

variable {s k}

/-- The flags that an entry sets do not touch the platform. -/
theorem entryFlags_override : k.override (((s.entryPushed b).setI true).setD false).cfg = k.override s.cfg :=
  congrArg k.override (entryPushed_cfg b s)

theorem enterVector_override {w : Word} (h : k.override s.cfg = some w) :
    (s.enterVector k b).pc = w ∧ (s.enterVector k b).uartQueue = s.uartQueue := by
  rw [enterVector_eq, loadVector_override _ k w ((entryFlags_override b).trans h)]
  exact ⟨rfl, entryPushed_uartQueue b s⟩

theorem enterVector_vector (h : k.override s.cfg = none) :
    (s.enterVector k b).pc = ((s.entryPushed b).read16 k.addr).1 ∧
      (s.enterVector k b).uartQueue = ((s.entryPushed b).read16 k.addr).2.uartQueue := by
  rw [enterVector_eq, loadVector_read _ k ((entryFlags_override b).trans h)]
  exact ⟨rfl, rfl⟩

theorem enterVector_plainVector (h : k.override s.cfg = none) (hlo : s.plainAt k.addr)
    (hhi : s.plainAt (k.addr + 1)) :
    (s.enterVector k b).pc = joinBytes (s.busValue (k.addr + 1)) (s.busValue k.addr) ∧
      (s.enterVector k b).uartQueue = s.uartQueue := by
  obtain ⟨hpc, hqueue⟩ := enterVector_vector b h
  obtain ⟨hword, hkept⟩ := read16_of_plainAt (plainAt_of_cfg hlo (entryPushed_cfg b s))
    (plainAt_of_cfg hhi (entryPushed_cfg b s))
  obtain ⟨hlow, hhigh⟩ := entryPushed_busValue_vector b k hlo hhi
  rw [hpc, hqueue, hword, hkept, hlow, hhigh]
  exact ⟨rfl, entryPushed_uartQueue b s⟩

variable (s k)

theorem enterVector_queue_suffix : (s.enterVector k b).uartQueue <:+ s.uartQueue := by
  cases h : k.override s.cfg with
  | some w => exact (enterVector_override b h).2 ▸ List.suffix_refl _
  | none =>
    rw [(enterVector_vector b h).2, ← entryPushed_uartQueue b s]
    exact (read16_onlyRead (s.entryPushed b) k.addr).2

/-- TAKING AN EXCEPTION does what R355 and R356 say, from every state, whatever count follows it. -/
theorem enterVector_entered (n : Nat) : VectorEntered s ((s.enterVector k b).setCycles n) k b where
  sp := by
    have hsp : s.sp - 3 = s.sp - 1 - 1 - 1 := by bv_omega
    rw [hsp]
    exact enterVector_sp s k b
  flagI := enterVector_flagI s k b
  flagD := enterVector_flagD s k b
  flagN := enterVector_flagN s k b
  flagV := enterVector_flagV s k b
  flagZ := enterVector_flagZ s k b
  flagC := enterVector_flagC s k b
  flagByte := pByte_bits s b
  override _ h := enterVector_override b h
  vector h := enterVector_vector b h
  queue := enterVector_queue_suffix s k b
  plainVector h hlo hhi := enterVector_plainVector b h hlo hhi
  stores := enterVector_stores s k b
  pushed hram hs := by
    rw [setCycles_mem, (enterVector_stores s k b).1]
    exact entryPushed_mem_stack b hram hs.1
  otherBytes n hhi hlo hp := by
    rw [setCycles_mem, (enterVector_stores s k b).1]
    exact entryPushed_mem_other b hhi hlo hp
  otherPlaces hram := by
    obtain ⟨_, hvideo, hrow, hbank⟩ := enterVector_stores s k b
    rw [setCycles_videoBuf, setCycles_kbdRowSel, setCycles_bankSel, hvideo, hrow, hbank,
      entryPushed_of_stackIsRam b hram]
    exact ⟨rfl, rfl, rfl⟩
  rest := onlyControl_trans (enterVector_onlyControl s k b) rfl

end

/-- Settles O24: behind the signature byte BRK is the entry through the IRQ vector with B set. -/
theorem brkEntersThroughIrqVector : Obligations.BrkEntersThroughIrqVector := fun _ s =>
  ⟨_, rfl, rfl, operandFetch_onlyRead s, enterVector_entered s.operandFetch .irq true 7⟩

end Sys2Proof.Proofs.Control
end

section
/-! Proofs of the family 45_system: the flag instructions, NOP and the undefined opcodes (R320 to R330). -/

namespace Sys2Proof.Proofs.System

open Sys2Proof.Machine Sys2Proof.Proofs.LoadStore

/-! ## Flag instructions (R320 to R326) -/

/-- A row without a penalty sets the cycle count and nothing else (R430). -/
theorem charge_fixed (s : State) (n : Nat) : s.charge (.fixed n) false = { s with cycles := n } := rfl

/-- Settles O51: each meaning is one flag update under the count of its row. -/
theorem flagInstructions : Obligations.FlagInstructions := fun s =>
  have counted (t : State) : Host.Outcome.next (t.charge (.fixed 2) false) = .next { t with cycles := 2 } :=
    congrArg Host.Outcome.next (charge_fixed t 2)
  ⟨counted (s.setC false), counted (s.setC true), counted (s.setI false), counted (s.setI true),
    counted (s.setD false), counted (s.setD true), counted (s.setV false)⟩

/-! ## NOP and the undefined opcodes (R106, R327, R330) -/

/-- The Bus accesses and the PC steps of `n` operand fetches, one after the other (R12). -/
def fetchOperands : Nat → State → State
  | 0, s => s
  | n + 1, s => fetchOperands n s.operandFetch

/-- `i` has `n` operand bytes, and from `s` it fetches them one after the other and takes its table's cycles. -/
structure OnlyFetches (i : Instr) (n : Nat) (s : State) : Prop where
  length : (encode i).length = n + 1
  exec : exec i s = .next { fetchOperands n s with cycles := (costOf i).base }

/-- A row only fetches where its meaning is one fetch for each byte behind the opcode, under the opcode's
cycles. -/
theorem onlyFetches_of_encode {i : Instr} {op : Byte} {bs : List Byte} {n : Nat} {s : State}
    (hencode : encode i = op :: bs) (hn : bs.length = n)
    (hexec : exec i s = .next { fetchOperands n s with
      cycles := (cycleMap.get (opcodeHigh op)).get (opcodeLow op) }) : OnlyFetches i n s where
  length := by rw [hencode, List.length_cons, hn]
  exec := by rw [hexec, costOf_of_encode hencode]

theorem eq_nop_of_mnemonic {i : Instr} (h : mnemonicOf i = .nop) : i = .nop := by
  cases i with
  | nop => rfl
  | _ => cases h

theorem nop_onlyFetches (s : State) : OnlyFetches .nop 0 s := onlyFetches_of_encode rfl rfl rfl

/-- The classes of R330 by length: undef-1; undef-imm, undef-zp and undef-zp,X; undef-abs and undef-abs8. -/
theorem undefined_onlyFetches {i : Instr} (h : mnemonicOf i = .undefined) (s : State) :
    ∃ n ≤ 2, OnlyFetches i n s := by
  cases i with
  | nop03 | nop0B | nop13 | nop1B | nop23 | nop2B | nop33 | nop3B | nop43 | nop4B | nop53 | nop5B | nop63
  | nop6B | nop73 | nop7B | nop83 | nop8B | nop93 | nop9B | nopA3 | nopAB | nopB3 | nopBB | nopC3 | nopD3
  | nopE3 | nopEB | nopF3 | nopFB =>
    exact ⟨0, by decide, onlyFetches_of_encode rfl rfl rfl⟩
  | nop02 | nop22 | nop42 | nop44 | nop54 | nop62 | nop82 | nopC2 | nopD4 | nopE2 | nopF4 =>
    exact ⟨1, by decide, onlyFetches_of_encode rfl rfl rfl⟩
  | nop5C | nopDC | nopFC =>
    exact ⟨2, by decide, onlyFetches_of_encode rfl rfl rfl⟩
  | _ => cases h

theorem nopOrUndefined_onlyFetches {i : Instr} (h : mnemonicOf i = .nop ∨ mnemonicOf i = .undefined)
    (s : State) : ∃ n ≤ 2, OnlyFetches i n s := by
  rcases h with hnop | hundef
  · rw [eq_nop_of_mnemonic hnop]
    exact ⟨0, by decide, nop_onlyFetches s⟩
  · exact undefined_onlyFetches hundef s

/-- Settles O52: the number of operand bytes is the number of fetches. -/
theorem nopAndUndefinedOnlyFetch : Obligations.NopAndUndefinedOnlyFetch := by
  intro i s h u w
  have oneByte (hnop : mnemonicOf i = .nop) : (encode i).length = 1 :=
    congrArg (fun j => (encode j).length) (eq_nop_of_mnemonic hnop)
  obtain ⟨n, hn, hlength, hexec⟩ := nopOrUndefined_onlyFetches h s
  have fetches {k : Nat} (hk : (encode i).length = k + 1) :
      exec i s = .next { fetchOperands k s with cycles := (costOf i).base } := by
    obtain rfl : n = k := by omega
    exact hexec
  exact ⟨rfl, rfl, oneByte, by omega, fetches (k := 0), fetches (k := 1), fetches (k := 2)⟩

end Sys2Proof.Proofs.System
end

section
/-! Proofs of the family 60_exceptions: what a running CPU does at an instruction boundary where an interrupt is
taken (R350, R354, R359), and what the entry leaves (R355, R356). -/

namespace Sys2Proof.Proofs.Exceptions

open Sys2Proof.Machine Sys2Proof.Laws Sys2Proof.Proofs.Control

section
variable {s : State}

/-! ## Which interrupt a running CPU takes (R354, R359) -/

theorem cpuStep_of_running (h : s.run = .running) : cpuStep s = boundaryStep s := by
  unfold cpuStep
  rw [h]

/-- A latched NMI is taken whatever the IRQ line and I are, and its latch is cleared before the entry. -/
theorem boundaryStep_of_nmiLatch (h : s.nmiLatch = true) :
    boundaryStep s = .next (State.enterInterrupt { s with nmiLatch := false } .nmi) := by
  rw [boundaryStep, if_pos h]

/-- The IRQ line is seen only where no NMI is latched and I is clear. -/
theorem boundaryStep_of_unmaskedIrq (hnmi : s.nmiLatch = false) (hirq : s.irqLine = true)
    (hI : s.flagI = false) : boundaryStep s = .next (s.enterInterrupt .irq) := by
  have unlatched : ¬ s.nmiLatch = true := by simp [hnmi]
  have unmasked : (s.irqLine && !s.flagI) = true := by simp [hirq, hI]
  rw [boundaryStep, if_neg unlatched, if_pos unmasked]

/-! ## The hardware entry (R355) -/

/-- A step that is a hardware entry from a state with no latched NMI leaves the latch clear and takes 7 cycles. -/
theorem interruptEntered {r : Result} {k : VectorKind} (hstep : r = .next (s.enterInterrupt k))
    (hnmi : s.nmiLatch = false) :
    ∃ t, r = .next t ∧ t.nmiLatch = false ∧ t.cycles = 7 ∧ VectorEntered s t k false :=
  ⟨_, hstep, (enterVector_nmiLatch s k false).trans hnmi, rfl, enterVector_entered s k false 7⟩

end

/-- Settles O22: the boundary of a running CPU chooses the interrupt, and each choice is one hardware entry from a
state whose latch is clear. -/
theorem interruptEntry : Obligations.InterruptEntry := by
  intro s hrun
  rw [cpuStep_of_running hrun]
  refine ⟨fun hnmi => ?_, fun hnmi hirq hI => ?_⟩
  · exact interruptEntered (boundaryStep_of_nmiLatch hnmi) rfl
  · exact interruptEntered (boundaryStep_of_unmaskedIrq hnmi hirq hI) hnmi

end Sys2Proof.Proofs.Exceptions
end

section
/-! Proofs of the family 70_reset_and_hazards: what the reset sequence writes and what it leaves (R400). -/

namespace Sys2Proof.Proofs.Reset

open Sys2Proof.Machine Sys2Proof.Laws

/-- Going through a vector writes PC, and may take bytes off the UART queue (R356, R62). -/
theorem loadVector_eq (s : State) (k : VectorKind) :
    s.loadVector k = { s with pc := (s.loadVector k).pc, uartQueue := (s.loadVector k).uartQueue } := by
  cases h : k.override s.cfg with
  | some w => rw [loadVector_override s k w h]; rfl
  | none => rw [loadVector_read s k h]; rfl

/-- The state from which the reset sequence goes through its vector: SP, I, run and the latch are written. -/
def beforeVector (s : State) : State :=
  { s with sp := s.sp - 3, flagI := true, run := .running, nmiLatch := false }

/-- The sequence gives back the queue that its vector read may have shortened (log 21), so nothing of the read is
left but PC. -/
theorem resetSequence_eq (s : State) : s.resetSequence = { beforeVector s with pc := s.resetSequence.pc } :=
  congrArg (fun t : State => { t with uartQueue := s.uartQueue }) (loadVector_eq (beforeVector s) .reset)

theorem resetSequence_uartQueue (s : State) : s.resetSequence.uartQueue = s.uartQueue := rfl

theorem resetSequence_pc (s : State) : s.resetSequence.pc = ((beforeVector s).loadVector .reset).pc := rfl

/-- No Bus read sees SP, I, run or the latch. -/
theorem read16_beforeVector (s : State) (a : Word) : ((beforeVector s).read16 a).1 = (s.read16 a).1 := rfl

theorem resetSequence_pc_of_override {s : State} {w : Word} (h : s.cfg.resetOverride = some w) :
    s.resetSequence.pc = w := by
  rw [resetSequence_pc, loadVector_override (beforeVector s) .reset w h, setPC_pc]

theorem resetSequence_pc_of_vector {s : State} (h : s.cfg.resetOverride = none) :
    s.resetSequence.pc = (s.read16 0xFFFC).1 := by
  rw [resetSequence_pc, loadVector_read (beforeVector s) .reset h, setPC_pc, read16_beforeVector]
  rfl

/-- Only a reset changes the run state from outside (R372). -/
theorem hostAction_run {act : HostAction} (s : State) (h : act ≠ .reset) : (s.hostAction act).run = s.run := by
  cases act with
  | keyEvent | setIrq | setNmi => rfl
  | reset => exact absurd rfl h

/-- Settles O27: the frame is `resetSequence_eq`, and the clauses about SP, I, run and the latch are its fields. -/
theorem resetSequence : Obligations.ResetSequence := by
  intro s
  have frame : s.hostAction .reset = { beforeVector s with pc := (s.hostAction .reset).pc } := resetSequence_eq s
  exact ⟨fun _ => hostAction_run s, congrArg State.flagI frame, congrArg State.sp frame, congrArg State.run frame,
    congrArg State.nmiLatch frame, fun _ => resetSequence_pc_of_override, resetSequence_pc_of_vector,
    resetSequence_uartQueue s, frame⟩

end Sys2Proof.Proofs.Reset
end

section
/-! Proofs about decoding and encoding (R100 to R110): the opcode map and the encoding are inverse to each other. -/

namespace Sys2Proof.Proofs.Encoding

open Sys2Proof.Machine Sys2Proof.Laws

/-! ## The opcode map and `encode`, entry by entry -/

/-- The opcode with the given high and low digit. -/
def opcodeOfDigits (high low : Fin 16) : Byte := BitVec.ofNat 8 (16 * high + low)

theorem opcodeOfDigits_digits (op : Byte) : opcodeOfDigits (opcodeHigh op) (opcodeLow op) = op := by
  have h : 16 * (op.toNat / 16) + op.toNat % 16 = op.toNat := Nat.div_add_mod _ _
  simp [opcodeOfDigits, opcodeHigh, opcodeLow, h]

/-- The sixteen cases of an opcode digit. -/
theorem forall_digit {P : Fin 16 → Prop} (h0 : P 0) (h1 : P 1) (h2 : P 2) (h3 : P 3) (h4 : P 4) (h5 : P 5) (h6 : P 6)
    (h7 : P 7) (h8 : P 8) (h9 : P 9) (h10 : P 10) (h11 : P 11) (h12 : P 12) (h13 : P 13) (h14 : P 14) (h15 : P 15) :
    ∀ d, P d
  | ⟨0, _⟩ => h0 | ⟨1, _⟩ => h1 | ⟨2, _⟩ => h2 | ⟨3, _⟩ => h3 | ⟨4, _⟩ => h4 | ⟨5, _⟩ => h5 | ⟨6, _⟩ => h6
  | ⟨7, _⟩ => h7 | ⟨8, _⟩ => h8 | ⟨9, _⟩ => h9 | ⟨10, _⟩ => h10 | ⟨11, _⟩ => h11 | ⟨12, _⟩ => h12
  | ⟨13, _⟩ => h13 | ⟨14, _⟩ => h14 | ⟨15, _⟩ => h15 | ⟨n + 16, h⟩ => absurd h (by omega)

theorem bytes_of_word (op o1 o2 : Byte) : [op, lo8 (joinBytes o2 o1), hi8 (joinBytes o2 o1)] = [op, o1, o2] := by
  rw [lo8_joinBytes, hi8_joinBytes]

/-- Every entry of the map encodes to its opcode and its operand bytes. A field is one operand byte, or the word of
the two. -/
theorem encode_opcodeMap (high low : Fin 16) (o1 o2 : Byte) :
    encode ((opcodeMap.get high).get low o1 o2) =
      [opcodeOfDigits high low, o1, o2].take ((lengthMap.get high).get low) := by
  revert low
  revert high
  apply forall_digit <;> apply forall_digit
  any_goals rfl
  all_goals exact bytes_of_word _ o1 o2

theorem encode_decodeBytes (op o1 o2 : Byte) :
    encode (decodeBytes op o1 o2) = [op, o1, o2].take (opcodeLength op) := by
  have h := encode_opcodeMap (opcodeHigh op) (opcodeLow op) o1 o2
  rwa [opcodeOfDigits_digits] at h

theorem lengthMap_bounds :
    ∀ high low : Fin 16, 1 ≤ (lengthMap.get high).get low ∧ (lengthMap.get high).get low ≤ 3 := by decide

/-- Every opcode begins an instruction of 1, 2 or 3 bytes (R100). -/
theorem opcodeLength_cases (op : Byte) :
    opcodeLength op = 1 ∨ opcodeLength op = 2 ∨ opcodeLength op = 3 := by
  have h : 1 ≤ opcodeLength op ∧ opcodeLength op ≤ 3 := lengthMap_bounds (opcodeHigh op) (opcodeLow op)
  omega

theorem opcodeOf_decodeBytes (op o1 o2 : Byte) : opcodeOf (decodeBytes op o1 o2) = op := by
  rw [opcodeOf, encode_decodeBytes]
  rcases opcodeLength_cases op with h | h | h <;> rw [h] <;> rfl

/-- The bytes `op :: bs` of `i` are those that the map turns into `i`. -/
theorem decodeBytes_of_encode {i : Instr} {op : Byte} {bs : List Byte} (hencode : encode i = op :: bs)
    (hdecode : decodeBytes op (bs.getD 0 0) (bs.getD 1 0) = i) :
    decodeBytes (opcodeOf i) ((encode i).getD 1 0) ((encode i).getD 2 0) = i := by
  rw [opcodeOf, hencode]
  exact hdecode

/-- Every instruction is the entry of its opcode, at its operand bytes. -/
theorem decodeBytes_encode (i : Instr) :
    decodeBytes (opcodeOf i) ((encode i).getD 1 0) ((encode i).getD 2 0) = i := by
  cases i
  any_goals exact decodeBytes_of_encode rfl rfl
  all_goals exact decodeBytes_of_encode rfl (congrArg _ (joinBytes_hi8_lo8 _))

theorem encode_injective {i j : Instr} (h : encode i = encode j) : i = j := by
  rw [← decodeBytes_encode i, ← decodeBytes_encode j, opcodeOf, opcodeOf, h]

/-! ## The decoder on byte lists -/

theorem decode_cons (op : Byte) (rest : List Byte) (h : opcodeLength op ≤ rest.length + 1) :
    decode (op :: rest) =
      .ok (decodeBytes op (rest.getD 0 0) (rest.getD 1 0), rest.drop (opcodeLength op - 1)) := by
  rw [decode, if_neg (by omega)]

theorem decode_cons_of_missing (op : Byte) (rest : List Byte) (h : rest.length + 1 < opcodeLength op) :
    decode (op :: rest) = .error (.missingOperand op) := by
  rw [decode, if_pos h]

/-- The bytes that the decoder consumes are the encoding of what it answers. -/
theorem encode_decodeBytes_of_length (op : Byte) (rest : List Byte) (h : opcodeLength op ≤ rest.length + 1) :
    encode (decodeBytes op (rest.getD 0 0) (rest.getD 1 0)) = (op :: rest).take (opcodeLength op) := by
  rw [encode_decodeBytes]
  rcases opcodeLength_cases op with hop | hop | hop <;> rw [hop] at h ⊢
  · rfl
  · obtain ⟨o1, rest, rfl⟩ := List.exists_cons_of_length_pos (l := rest) (by omega)
    rfl
  · obtain ⟨o1, rest, rfl⟩ := List.exists_cons_of_length_pos (l := rest) (by omega)
    obtain ⟨o2, rest, rfl⟩ := List.exists_cons_of_length_pos (l := rest) (by simp at h; omega)
    rfl

theorem encode_eq_opcodeOf_cons (i : Instr) : ∃ bs, encode i = opcodeOf i :: bs := by
  have h := encode_decodeBytes (opcodeOf i) ((encode i).getD 1 0) ((encode i).getD 2 0)
  rw [decodeBytes_encode] at h
  rcases opcodeLength_cases (opcodeOf i) with hop | hop | hop <;> rw [hop] at h <;> exact ⟨_, h⟩

theorem length_encode (i : Instr) : (encode i).length = opcodeLength (opcodeOf i) := by
  have h := encode_decodeBytes (opcodeOf i) ((encode i).getD 1 0) ((encode i).getD 2 0)
  rw [decodeBytes_encode] at h
  rcases opcodeLength_cases (opcodeOf i) with hop | hop | hop <;> rw [h, hop] <;> rfl

/-- Settles O1: the decoder consumes the encoding of `i`, and no other instruction has it. -/
theorem decodeOfEncodeIsTheInstruction : Obligations.DecodeOfEncodeIsTheInstruction := by
  intro i rest _
  obtain ⟨bs, hi⟩ := encode_eq_opcodeOf_cons i
  have hlength : opcodeLength (opcodeOf i) = bs.length + 1 := by rw [← length_encode, hi, List.length_cons]
  have enough : opcodeLength (opcodeOf i) ≤ (bs ++ rest).length + 1 := by rw [hlength]; simp
  have same : encode (decodeBytes (opcodeOf i) ((bs ++ rest).getD 0 0) ((bs ++ rest).getD 1 0)) = encode i := by
    rw [encode_decodeBytes_of_length _ _ enough, hlength, hi]
    simp
  rw [hi, List.cons_append, decode_cons _ _ enough, encode_injective same, hlength]
  simp

/-- Settles O2: the bytes consumed are the encoding, and the others are left. -/
theorem encodeOfDecodeIsTheBytes : Obligations.EncodeOfDecodeIsTheBytes := by
  intro bs rest i h
  cases bs with
  | nil => cases h
  | cons op bs =>
    by_cases enough : opcodeLength op ≤ bs.length + 1
    · rw [decode_cons op bs enough] at h
      cases h
      have pos : opcodeLength op = opcodeLength op - 1 + 1 := by
        rcases opcodeLength_cases op with h | h | h <;> rw [h]
      rw [encode_decodeBytes_of_length op bs enough, pos]
      simp
    · rw [decode_cons_of_missing op bs (by omega)] at h
      cases h

/-- Settles O3, by the lengths of the opcode map and the two answers of the decoder. -/
theorem decoderIsTotalOnOpcodes : Obligations.DecoderIsTotalOnOpcodes := by
  intro op rest
  have length : 1 ≤ opcodeLength op ∧ opcodeLength op ≤ 3 := lengthMap_bounds (opcodeHigh op) (opcodeLow op)
  refine ⟨length.1, length.2, fun enough => ?_, decode_cons_of_missing op rest⟩
  refine ⟨_, decode_cons op rest enough, opcodeOf_decodeBytes op _ _, ?_⟩
  rw [length_encode, opcodeOf_decodeBytes]

/-- Settles O4: each word is the decoder's answer at its opcode, computed. -/
theorem writtenOutWordsDecode : Obligations.WrittenOutWordsDecode :=
  ⟨rfl, rfl, rfl, rfl, rfl, rfl, rfl, rfl, rfl, rfl, rfl, rfl⟩

end Sys2Proof.Proofs.Encoding
end

section
/-! Proofs about fetching (R12, R86, R350): which bytes are fetched, and that a step runs what they decode to. -/

namespace Sys2Proof.Proofs.Fetch

open Sys2Proof.Machine Sys2Proof.Laws Sys2Proof.Proofs.Memory Sys2Proof.Proofs.Encoding
open Sys2Proof.Proofs.Exceptions

/-! ## A step that executes an instruction -/

/-- The three bytes that are always fetched are enough for every opcode. -/
theorem decode_fetchedBytes (s : State) : ∃ rest, decode s.fetchedBytes = .ok ((fetchInstr s).1, rest) := by
  have enough (op o1 o2 : Byte) : opcodeLength op ≤ [o1, o2].length + 1 := (lengthMap_bounds _ _).2
  exact ⟨_, decode_cons _ _ (enough _ _ _)⟩

/-- With no NMI latched and no unmasked IRQ, the boundary runs the instruction at PC (R350). -/
theorem boundaryStep_of_quiet {s : State} (hnmi : s.nmiLatch = false) (hirq : (s.irqLine && !s.flagI) = false) :
    boundaryStep s = exec (fetchInstr s).1 (fetchInstr s).2 := by
  simp [boundaryStep, hnmi, hirq]

/-- Settles O5: the decoded instruction is the fetched one, and the boundary of a running CPU runs it. -/
theorem stepRunsTheDecodedInstruction : Obligations.StepRunsTheDecodedInstruction := by
  intro s i rest hrun hnmi hirq hdecode
  obtain ⟨rest', hfetched⟩ := decode_fetchedBytes s
  obtain ⟨rfl, _⟩ : (fetchInstr s).1 = i ∧ rest' = rest := by simpa using hfetched.symm.trans hdecode
  refine ⟨rfl, ?_⟩
  rw [step, cpuStep_of_running hrun, boundaryStep_of_quiet hnmi hirq]
  rfl

/-! ## Fetching from storage -/

/-- A byte in RAM or ROM is served from memory (R54). -/
theorem busValue_of_storage {s : State} {a : Word}
    (h : s.regionAt a = some .ram ∨ s.regionAt a = some .rom) : s.busValue a = s.mem.read a.toNat := by
  unfold State.busValue
  rcases h with h | h <;> rw [h]

section
variable (op o1 : Byte) (s : State)

theorem beforeThirdByte_pc : (s.beforeThirdByte op o1).pc = s.pc + 1 := by
  unfold State.beforeThirdByte State.jsrPushed
  split
  · simp
  · split <;> rfl

theorem beforeThirdByte_regionAt (a : Word) : (s.beforeThirdByte op o1).regionAt a = s.regionAt a := by
  refine regionAt_of_cfg ?_ a
  unfold State.beforeThirdByte State.jsrPushed
  split
  · simp
  · split <;> rfl

variable {op} in
/-- Only JSR stores before its third byte is fetched. -/
theorem beforeThirdByte_mem (h : op ≠ 0x20) : (s.beforeThirdByte op o1).mem = s.mem := by
  unfold State.beforeThirdByte
  rw [if_neg h]
  split <;> rfl

end

/-- Where PC and the two bytes behind it are storage, the third fetched byte is the only one that a store of the
instruction itself can have changed. -/
theorem fetchedBytes_of_storage {s : State}
    (h : ∀ k : Nat, k < 3 → s.regionAt (s.pc + BitVec.ofNat 16 k) = some .ram ∨
      s.regionAt (s.pc + BitVec.ofNat 16 k) = some .rom) :
    s.fetchedBytes = [s.mem.read s.pc.toNat, s.mem.read (s.pc + 1).toNat,
      (s.fetch8.2.beforeThirdByte (s.mem.read s.pc.toNat) (s.mem.read (s.pc + 1).toNat)).mem.read
        (s.pc + 2).toNat] := by
  have opcode : s.busValue s.pc = s.mem.read s.pc.toNat := busValue_of_storage (by simpa using h 0 (by decide))
  have second : s.fetch8.2.busValue s.fetch8.2.pc = s.mem.read (s.pc + 1).toNat :=
    busValue_of_storage (s := s.fetch8.2) (h 1 (by decide))
  have third (op o1 : Byte) : (s.fetch8.2.beforeThirdByte op o1).busValue (s.fetch8.2.beforeThirdByte op o1).pc =
      (s.fetch8.2.beforeThirdByte op o1).mem.read (s.pc + 2).toNat := by
    have hpc : s.fetch8.2.pc + 1 = s.pc + 2 := BitVec.add_assoc s.pc 1 1
    rw [beforeThirdByte_pc, hpc]
    refine busValue_of_storage ?_
    rw [beforeThirdByte_regionAt]
    exact h 2 (by decide)
  rw [← opcode, ← second]
  exact congrArg (fun b => [_, _, b]) (third _ _)

/-- Settles O6: the opcode and the second byte come from memory as it stands, and so does the third, but for the
pushes of JSR. -/
theorem fetchSeesMemory : Obligations.FetchSeesMemory := by
  intro s h
  rw [fetchedBytes_of_storage h]
  refine ⟨fun hop => ?_, fun hop => ?_⟩
  · rw [beforeThirdByte_mem _ _ hop]
    rfl
  · rw [hop]
    rfl

end Sys2Proof.Proofs.Fetch
end

section
/-! What `exec` can do, said once: every instruction runs one of the shared operations, under its mnemonic, its mode and
its cycle entry (R103, R110). -/

namespace Sys2Proof.Proofs.Instructions

open Sys2Proof.Machine Sys2Proof.Laws Sys2Proof.Proofs.LoadStore Sys2Proof.Proofs.Arithmetic
open Sys2Proof.Proofs.Logic Sys2Proof.Proofs.System

/-- What an implied instruction without a Bus access does, but for its count; none for the other mnemonics. -/
def impliedOp : Mnemonic → Option (State → State)
  | .tax => some fun s => (s.setX s.a).setNZ s.a
  | .tay => some fun s => (s.setY s.a).setNZ s.a
  | .txa => some fun s => (s.setA s.x).setNZ s.x
  | .tya => some fun s => (s.setA s.y).setNZ s.y
  | .tsx => some fun s => (s.setX s.sp).setNZ s.sp
  | .txs => some fun s => s.setSP s.x
  | .inx => some fun s => (s.setX (s.x + 1)).setNZ (s.x + 1)
  | .iny => some fun s => (s.setY (s.y + 1)).setNZ (s.y + 1)
  | .dex => some fun s => (s.setX (s.x - 1)).setNZ (s.x - 1)
  | .dey => some fun s => (s.setY (s.y - 1)).setNZ (s.y - 1)
  | .clc => some fun s => s.setC false
  | .sec => some fun s => s.setC true
  | .cli => some fun s => s.setI false
  | .sei => some fun s => s.setI true
  | .cld => some fun s => s.setD false
  | .sed => some fun s => s.setD true
  | .clv => some fun s => s.setV false
  | .wai => some fun s => s.setRun .waiting
  | .stp => some fun s => s.setRun .stopped
  | _ => none

/-- What a pull does with the byte it pulled; none for the other mnemonics. -/
def pullOp : Mnemonic → Option (State → Byte → State)
  | .pla => some fun s v => (s.setA v).setNZ v
  | .plx => some fun s v => (s.setX v).setNZ v
  | .ply => some fun s v => (s.setY v).setNZ v
  | .plp => some State.setP
  | _ => none

/-- The byte that a push's mnemonic pushes; none for the other mnemonics. -/
def pushedByte (s : State) : Mnemonic → Option Byte
  | .pha => some s.a
  | .php => some (s.pByte true)
  | .phx => some s.x
  | .phy => some s.y
  | _ => none

/-- Whether a branch's mnemonic branches; none for the other mnemonics. -/
def branchTaken (s : State) : Mnemonic → Option Bool
  | .bpl => some !s.flagN
  | .bmi => some s.flagN
  | .bvc => some !s.flagV
  | .bvs => some s.flagV
  | .bcc => some !s.flagC
  | .bcs => some s.flagC
  | .bne => some !s.flagZ
  | .beq => some s.flagZ
  | .bra => some true
  | _ => none

/-- `Meaning i f` says that the meaning of `i` is the operation `f`. One constructor for each shared operation; a row
without an operand mode has no penalty (R430). -/
inductive Meaning (i : Instr) : (State → State) → Prop
  | lda {m} (hm : modeOf i = some m) (hi : mnemonicOf i = .lda) : Meaning i (opLda m (costOf i))
  | ldx {m} (hm : modeOf i = some m) (hi : mnemonicOf i = .ldx) : Meaning i (opLdx m (costOf i))
  | ldy {m} (hm : modeOf i = some m) (hi : mnemonicOf i = .ldy) : Meaning i (opLdy m (costOf i))
  | store {m} {v : State → Byte} (hm : modeOf i = some m) (hv : ∀ s, storedByte s (mnemonicOf i) = some (v s))
      (hne : m ≠ .accumulator) : Meaning i fun s => opStore m (v s) (costOf i) s
  | adc {m} (hm : modeOf i = some m) (hi : mnemonicOf i = .adc) : Meaning i (opAdc m (costOf i))
  | sbc {m} (hm : modeOf i = some m) (hi : mnemonicOf i = .sbc) : Meaning i (opSbc m (costOf i))
  | compare {m} {r : State → Byte} (hm : modeOf i = some m) (hr : ∀ s, comparedRegister s (mnemonicOf i) = some (r s)) :
      Meaning i fun s => opCompare (r s) m (costOf i) s
  | modify {m f} (hm : modeOf i = some m) (hf : byteStep (mnemonicOf i) = some f) :
      Meaning i (opModify f m (costOf i))
  | logic {m f} (hm : modeOf i = some m) (hf : logicFunction (mnemonicOf i) = some f) :
      Meaning i (opLogic f m (costOf i))
  | bit {m} (hm : modeOf i = some m) (hi : mnemonicOf i = .bit) : Meaning i (opBit m (costOf i))
  | testModify {m f} (hm : modeOf i = some m) (hf : testFunction (mnemonicOf i) = some f)
      (hne : m ≠ .accumulator) : Meaning i (opTestModify f m (costOf i))
  | shift {m} {f : Bool → Byte → ShiftOut} (hm : modeOf i = some m)
      (hf : ∀ c, shiftFunction c (mnemonicOf i) = some (f c)) :
      Meaning i fun s => opShift (f s.flagC) m (costOf i) s
  | bitModify {n b z} (hm : modeOf i = some (.zp z)) (hi : mnemonicOf i = if b then .smb n else .rmb n) :
      Meaning i (opBitModify (putBit b n) (.zp z) (costOf i))
  | branch {taken : State → Bool} {d} (hi : ∀ s, branchTaken s (mnemonicOf i) = some (taken s)) :
      Meaning i fun s => opBranch (taken s) d s
  | bitBranch {n b z d} (hi : mnemonicOf i = if b then .bbs n else .bbr n) :
      Meaning i (opBitBranch n b z d)
  | jmp {m} (hm : modeOf i = some m) (hi : mnemonicOf i = .jmp) : Meaning i (opJmp m (costOf i))
  | jsr {w} (hm : modeOf i = none) (hi : mnemonicOf i = .jsr) : Meaning i (opJsr w (.fixed (costOf i).base))
  | rts (hm : modeOf i = none) (hi : mnemonicOf i = .rts) : Meaning i (opRts (.fixed (costOf i).base))
  | brk (hm : modeOf i = none) (hi : mnemonicOf i = .brk) : Meaning i (opBrk (.fixed (costOf i).base))
  | rti (hm : modeOf i = none) (hi : mnemonicOf i = .rti) : Meaning i (opRti (.fixed (costOf i).base))
  | push {v : State → Byte} (hm : modeOf i = none) (hv : ∀ s, pushedByte s (mnemonicOf i) = some (v s)) :
      Meaning i fun s => (s.push8 (v s)).charge (.fixed (costOf i).base) false
  | pull {g} (hm : modeOf i = none) (hg : pullOp (mnemonicOf i) = some g) :
      Meaning i fun s => (g s.pull8.2 s.pull8.1).charge (.fixed (costOf i).base) false
  | implied {f} (hm : modeOf i = none) (hf : impliedOp (mnemonicOf i) = some f) :
      Meaning i fun s => (f s).charge (.fixed (costOf i).base) false
  | fetches {n} (hm : modeOf i = none) (hi : mnemonicOf i = .nop ∨ mnemonicOf i = .undefined) :
      Meaning i fun s => (fetchOperands n s).charge (.fixed (costOf i).base) false

theorem exec_meaning (i : Instr) : ∃ f, Meaning i f ∧ ∀ s, exec i s = .next (f s) := by
  cases i with
  | ldaAbs | ldaAbsX | ldaAbsY | ldaImm | ldaZp | ldaZpInd | ldaZpIndY | ldaZpX | ldaZpXInd =>
    exact ⟨_, .lda rfl rfl, fun s => exec_of_loadOp s rfl rfl⟩
  | ldxAbs | ldxAbsY | ldxImm | ldxZp | ldxZpY =>
    exact ⟨_, .ldx rfl rfl, fun s => exec_of_loadOp s rfl rfl⟩
  | ldyAbs | ldyAbsX | ldyImm | ldyZp | ldyZpX =>
    exact ⟨_, .ldy rfl rfl, fun s => exec_of_loadOp s rfl rfl⟩
  | staAbs | staAbsX | staAbsY | staZp | staZpInd | staZpIndY | staZpX | staZpXInd | stxAbs | stxZp | stxZpY
  | styAbs | styZp | styZpX | stzAbs | stzAbsX | stzZp | stzZpX =>
    exact ⟨_, .store rfl (fun _ => rfl) nofun, fun s => by rw [costOf_of_encode rfl]; rfl⟩
  | adcAbs | adcAbsX | adcAbsY | adcImm | adcZp | adcZpInd | adcZpIndY | adcZpX | adcZpXInd =>
    exact ⟨_, .adc rfl rfl, fun s => by rw [costOf_of_encode rfl]; rfl⟩
  | sbcAbs | sbcAbsX | sbcAbsY | sbcImm | sbcZp | sbcZpInd | sbcZpIndY | sbcZpX | sbcZpXInd =>
    exact ⟨_, .sbc rfl rfl, fun s => by rw [costOf_of_encode rfl]; rfl⟩
  | cmpAbs | cmpAbsX | cmpAbsY | cmpImm | cmpZp | cmpZpInd | cmpZpIndY | cmpZpX | cmpZpXInd | cpxAbs | cpxImm
  | cpxZp | cpyAbs | cpyImm | cpyZp =>
    exact ⟨_, .compare rfl fun _ => rfl, fun s => exec_of_comparedRegister rfl rfl⟩
  | decAbs | decAbsX | decAcc | decZp | decZpX | incAbs | incAbsX | incAcc | incZp | incZpX =>
    exact ⟨_, .modify rfl rfl, fun s => (exec_of_byteStep s rfl rfl).1⟩
  | andAbs | andAbsX | andAbsY | andImm | andZp | andZpInd | andZpIndY | andZpX | andZpXInd | eorAbs | eorAbsX
  | eorAbsY | eorImm | eorZp | eorZpInd | eorZpIndY | eorZpX | eorZpXInd | oraAbs | oraAbsX | oraAbsY | oraImm
  | oraZp | oraZpInd | oraZpIndY | oraZpX | oraZpXInd =>
    exact ⟨_, .logic rfl rfl, fun s => exec_of_logicFunction s rfl rfl⟩
  | bitAbs | bitAbsX | bitImm | bitZp | bitZpX =>
    exact ⟨_, .bit rfl rfl, fun s => exec_of_bit s rfl rfl⟩
  | trbAbs | trbZp | tsbAbs | tsbZp =>
    exact ⟨_, .testModify rfl rfl nofun, fun s => by rw [costOf_of_encode rfl]; rfl⟩
  | aslAbs | aslAbsX | aslAcc | aslZp | aslZpX | lsrAbs | lsrAbsX | lsrAcc | lsrZp | lsrZpX | rolAbs | rolAbsX
  | rolAcc | rolZp | rolZpX | rorAbs | rorAbsX | rorAcc | rorZp | rorZpX =>
    exact ⟨_, .shift rfl fun _ => rfl, fun s => (exec_of_shiftFunction rfl rfl).1⟩
  | rmb0 | rmb1 | rmb2 | rmb3 | rmb4 | rmb5 | rmb6 | rmb7 =>
    exact ⟨_, .bitModify (b := false) rfl rfl, fun s => by rw [costOf_of_encode rfl]; rfl⟩
  | smb0 | smb1 | smb2 | smb3 | smb4 | smb5 | smb6 | smb7 =>
    exact ⟨_, .bitModify (b := true) rfl rfl, fun s => by rw [costOf_of_encode rfl]; rfl⟩
  | bcc | bcs | beq | bmi | bne | bpl | bra | bvc | bvs =>
    exact ⟨_, .branch fun _ => rfl, fun s => rfl⟩
  | bbr0 | bbr1 | bbr2 | bbr3 | bbr4 | bbr5 | bbr6 | bbr7 =>
    exact ⟨_, .bitBranch (b := false) rfl, fun s => rfl⟩
  | bbs0 | bbs1 | bbs2 | bbs3 | bbs4 | bbs5 | bbs6 | bbs7 =>
    exact ⟨_, .bitBranch (b := true) rfl, fun s => rfl⟩
  | jmpAbs | jmpAbsInd | jmpAbsXInd =>
    exact ⟨_, .jmp rfl rfl, fun s => by rw [costOf_of_encode rfl]; rfl⟩
  | jsr =>
    exact ⟨_, .jsr rfl rfl, fun s => by rw [costOf_of_encode rfl]; rfl⟩
  | rts =>
    exact ⟨_, .rts rfl rfl, fun s => by rw [costOf_of_encode rfl]; rfl⟩
  | brk =>
    exact ⟨_, .brk rfl rfl, fun s => by rw [costOf_of_encode rfl]; rfl⟩
  | rti =>
    exact ⟨_, .rti rfl rfl, fun s => by rw [costOf_of_encode rfl]; rfl⟩
  | pha | php | phx | phy =>
    exact ⟨_, .push rfl fun _ => rfl, fun s => by rw [costOf_of_encode rfl]; rfl⟩
  | pla | plp | plx | ply =>
    exact ⟨_, .pull rfl rfl, fun s => by rw [costOf_of_encode rfl]; rfl⟩
  | clc | cld | cli | clv | dex | dey | inx | iny | sec | sed | sei | stp | tax | tay | tsx | txa | txs | tya | wai =>
    exact ⟨_, .implied rfl rfl, fun s => by rw [costOf_of_encode rfl]; rfl⟩
  | nop =>
    exact ⟨_, .fetches (n := 0) rfl (.inl rfl), fun s => by rw [costOf_of_encode rfl]; rfl⟩
  | nop03 | nop0B | nop13 | nop1B | nop23 | nop2B | nop33 | nop3B | nop43 | nop4B | nop53 | nop5B | nop63
  | nop6B | nop73 | nop7B | nop83 | nop8B | nop93 | nop9B | nopA3 | nopAB | nopB3 | nopBB | nopC3 | nopD3 | nopE3
  | nopEB | nopF3 | nopFB =>
    exact ⟨_, .fetches (n := 0) rfl (.inr rfl), fun s => by rw [costOf_of_encode rfl]; rfl⟩
  | nop02 | nop22 | nop42 | nop44 | nop54 | nop62 | nop82 | nopC2 | nopD4 | nopE2 | nopF4 =>
    exact ⟨_, .fetches (n := 1) rfl (.inr rfl), fun s => by rw [costOf_of_encode rfl]; rfl⟩
  | nop5C | nopDC | nopFC =>
    exact ⟨_, .fetches (n := 2) rfl (.inr rfl), fun s => by rw [costOf_of_encode rfl]; rfl⟩


/-- Every instruction that answers `t` does so by its meaning. -/
theorem exec_eq_next {i : Instr} {s t : State} (h : exec i s = .next t) : ∃ f, Meaning i f ∧ t = f s := by
  obtain ⟨f, hf, hexec⟩ := exec_meaning i
  rw [hexec] at h
  cases h
  exact ⟨f, hf, rfl⟩

end Sys2Proof.Proofs.Instructions
end

section
/-! Proofs about every instruction, by cases on its meaning: the cycle counts (R430 to R433), and which instructions
change which flags and registers (R21 to R34). -/

namespace Sys2Proof.Proofs.Instructions

open Sys2Proof.Machine Sys2Proof.Laws Sys2Proof.Proofs.LoadStore Sys2Proof.Proofs.Arithmetic
open Sys2Proof.Proofs.Logic Sys2Proof.Proofs.System Sys2Proof.Proofs.Control

/-! ## What the shared operations leave alone -/

theorem addOperand_frame (s : State) (v : Byte) : s.addOperand v = { s with
    a := (s.addOperand v).a, flagN := (s.addOperand v).flagN, flagV := (s.addOperand v).flagV
    flagZ := (s.addOperand v).flagZ, flagC := (s.addOperand v).flagC, freeCount := (s.addOperand v).freeCount } := by
  rcases addOperand_cases s v with ⟨_, h⟩ | ⟨_, _, h⟩ | ⟨_, _, h⟩ <;> rw [h] <;> rfl

theorem subOperand_frame (s : State) (v : Byte) : s.subOperand v = { s with
    a := (s.subOperand v).a, flagN := (s.subOperand v).flagN, flagV := (s.subOperand v).flagV
    flagZ := (s.subOperand v).flagZ, flagC := (s.subOperand v).flagC, freeCount := (s.subOperand v).freeCount } := by
  rcases subOperand_cases s v with ⟨_, h⟩ | ⟨_, _, h⟩ | ⟨_, _, h⟩ <;> rw [h] <;> rfl

theorem bitTest_frame (s : State) (v : Byte) (immediate : Bool) : s.bitTest v immediate = { s with
    flagN := (s.bitTest v immediate).flagN, flagV := (s.bitTest v immediate).flagV
    flagZ := (s.bitTest v immediate).flagZ } := by
  cases immediate <;> rfl

theorem fetchOperands_onlyRead (n : Nat) (s : State) : OnlyRead s (fetchOperands n s) n := by
  induction n generalizing s with
  | zero => exact onlyRead_refl s
  | succ n ih =>
    have h : OnlyRead s (fetchOperands n s.operandFetch) (1 + n) :=
      onlyRead_trans (operandFetch_onlyRead s) (ih s.operandFetch)
    rwa [Nat.add_comm 1 n] at h

theorem writeM_a {o : Operand} (h : o.loc ≠ .acc) (v : Byte) (s : State) : (writeM o v s).a = s.a := by
  rcases writeM_cases o v s with ⟨hacc, _⟩ | ⟨_, _, hw⟩ | ⟨ea, _, hw⟩
  · exact absurd hacc h
  · rw [hw]
  · rw [hw, write8_a]

theorem resolve_loc_ne_acc {m : Mode} (h : m ≠ .accumulator) (s : State) : (resolve m s).1.loc ≠ .acc := by
  cases m with
  | accumulator => exact absurd rfl h
  | _ => nofun

/-! ## Cycles (R430, R431, R433) -/

/-- The mnemonics of the branches, whose counts R432 gives. -/
def isBranch (mn : Mnemonic) : Prop :=
  mn ∈ [.bpl, .bmi, .bvc, .bvs, .bcc, .bcs, .bne, .beq, .bra] ∨ ∃ n, mn = .bbr n ∨ mn = .bbs n

theorem isBranch_of_branchTaken {mn : Mnemonic} {s : State} {b : Bool} (h : branchTaken s mn = some b) :
    isBranch mn := by
  left
  cases mn with
  | bpl | bmi | bvc | bvs | bcc | bcs | bne | beq | bra => decide
  | _ => cases h

theorem isBranch_of_bitBranch {mn : Mnemonic} {n : Fin 8} {b : Bool} (h : mn = if b then .bbs n else .bbr n) :
    isBranch mn := by
  right
  cases b with
  | false => exact ⟨n, .inl h⟩
  | true => exact ⟨n, .inr h⟩

/-- The count is the row's with its penalties where it has an operand mode, and the row's where it has none. -/
theorem meaning_cycles {i : Instr} {f : State → State} (hf : Meaning i f) (hb : ¬ isBranch (mnemonicOf i))
    (s : State) :
    (∃ m, modeOf i = some m ∧ (f s).cycles = (costOf i).total (resolve m s).1.crossed s.flagD) ∨
      (modeOf i = none ∧ (f s).cycles = (costOf i).base) := by
  cases hf with
  | lda hm | ldx hm | ldy hm | store hm | compare hm | modify hm | logic hm | testModify hm | shift hm
  | bitModify hm | jmp hm =>
    exact .inl ⟨_, hm, by
      simp [opLda, opLdx, opLdy, opStore, opCompare, opModify, opLogic, opTestModify, opShift, opBitModify, opJmp]⟩
  | bit hm => exact .inl ⟨_, hm, by rw [opBit, bitTest_frame]; simp⟩
  | adc hm => exact .inl ⟨_, hm, by rw [opAdc, addOperand_frame]; simp⟩
  | sbc hm => exact .inl ⟨_, hm, by rw [opSbc, subOperand_frame]; simp⟩
  | branch hi => exact absurd (isBranch_of_branchTaken (hi s)) hb
  | bitBranch hi => exact absurd (isBranch_of_bitBranch hi) hb
  | jsr hm | rts hm | brk hm | rti hm | push hm | pull hm | implied hm | fetches hm => exact .inr ⟨hm, rfl⟩

/-- Settles O9: `Cost.total` is the table's count with its two penalties. -/
theorem cyclesFollowTheTable : Obligations.CyclesFollowTheTable := by
  intro i s hb
  obtain ⟨f, hf, hexec⟩ := exec_meaning i
  refine ⟨f s, hexec s, ?_⟩
  rcases meaning_cycles hf hb s with ⟨m, hm, hcycles⟩ | ⟨hm, hcycles⟩
  · refine ⟨fun m' hm' => ?_, fun hnone => ?_⟩
    · obtain rfl : m = m' := Option.some.inj (hm.symm.trans hm')
      exact hcycles
    · rw [hm] at hnone; cases hnone
  · refine ⟨fun m' hm' => ?_, fun _ => hcycles⟩
    rw [hm] at hm'; cases hm'

/-! ## Which mnemonics an operation has -/

section
variable {mn : Mnemonic} {s : State}

theorem mnemonic_of_comparedRegister {r : Byte} (h : comparedRegister s mn = some r) :
    mn = .cmp ∨ mn = .cpx ∨ mn = .cpy := by
  cases mn with
  | cmp | cpx | cpy => decide
  | _ => cases h

theorem mnemonic_of_byteStep {f : Byte → Byte} (h : byteStep mn = some f) : mn = .inc ∨ mn = .dec := by
  cases mn with
  | inc | dec => decide
  | _ => cases h

theorem mnemonic_of_logicFunction {f : Byte → Byte → Byte} (h : logicFunction mn = some f) :
    mn = .and ∨ mn = .ora ∨ mn = .eor := by
  cases mn with
  | and | ora | eor => decide
  | _ => cases h

theorem mnemonic_of_shiftFunction {c : Bool} {f : Byte → ShiftOut} (h : shiftFunction c mn = some f) :
    mn = .asl ∨ mn = .lsr ∨ mn = .rol ∨ mn = .ror := by
  cases mn with
  | asl | lsr | rol | ror => decide
  | _ => cases h

theorem mnemonic_of_pushedByte {v : Byte} (h : pushedByte s mn = some v) :
    mn = .pha ∨ mn = .php ∨ mn = .phx ∨ mn = .phy := by
  cases mn with
  | pha | php | phx | phy => decide
  | _ => cases h

end

/-! ## Flags and run state (R27 to R34) -/

/-- D, I, V, C and the run state differ between `s` and `t` only where the mnemonic may change them. -/
def FlagsChangeBy (mn : Mnemonic) (s t : State) : Prop :=
  (t.flagD ≠ s.flagD → mn ∈ [.sed, .cld, .plp, .rti, .brk]) ∧
  (t.flagI ≠ s.flagI → mn ∈ [.sei, .cli, .plp, .rti, .brk]) ∧
  (t.flagV ≠ s.flagV → mn ∈ [.adc, .sbc, .bit, .clv, .plp, .rti]) ∧
  (t.flagC ≠ s.flagC → mn ∈ [.adc, .sbc, .cmp, .cpx, .cpy, .asl, .lsr, .rol, .ror, .clc, .sec, .plp, .rti]) ∧
  (t.run ≠ s.run → mn ∈ [.wai, .stp])

theorem impliedOp_flags {mn : Mnemonic} {f : State → State} (h : impliedOp mn = some f) (s : State) :
    FlagsChangeBy mn s (f s) := by
  cases mn with
  | tax | tay | txa | tya | tsx | txs | inx | iny | dex | dey | clc | sec | cli | sei | cld | sed | clv | wai
  | stp =>
    cases h
    simp [FlagsChangeBy]
  | _ => cases h

theorem pullOp_flags {mn : Mnemonic} {g : State → Byte → State} (h : pullOp mn = some g) (s : State) (v : Byte) :
    FlagsChangeBy mn s (g s v) := by
  cases mn with
  | pla | plx | ply | plp =>
    cases h
    simp [FlagsChangeBy]
  | _ => cases h

theorem meaning_flags {i : Instr} {f : State → State} (hf : Meaning i f) (s : State) :
    FlagsChangeBy (mnemonicOf i) s (f s) := by
  cases hf with
  | lda | ldx | ldy | store | modify | logic | testModify | bitModify | jmp | jsr | rts | push =>
    simp [FlagsChangeBy, opLda, opLdx, opLdy, opStore, opModify, opLogic, opTestModify, opBitModify, opJmp, opJsr,
      opRts, State.jsrPushed]
  | adc _ hi => rw [opAdc, addOperand_frame]; simp [FlagsChangeBy, hi]
  | sbc _ hi => rw [opSbc, subOperand_frame]; simp [FlagsChangeBy, hi]
  | bit _ hi => rw [opBit, bitTest_frame]; simp [FlagsChangeBy, hi]
  | compare _ hr =>
    rcases mnemonic_of_comparedRegister (hr s) with hi | hi | hi <;> simp [FlagsChangeBy, opCompare, hi]
  | shift _ hf =>
    rcases mnemonic_of_shiftFunction (hf s.flagC) with hi | hi | hi | hi <;> simp [FlagsChangeBy, opShift, hi]
  | branch => dsimp only; rw [opBranch, branchIf_frame]; simp [FlagsChangeBy]
  | bitBranch => rw [opBitBranch, branchIf_frame]; simp [FlagsChangeBy]
  | brk _ hi => simp [FlagsChangeBy, opBrk, hi]
  | rti _ hi => simp [FlagsChangeBy, opRti, State.returnFromInterrupt, hi]
  | pull _ hg => exact pullOp_flags hg s.pull8.2 s.pull8.1
  | implied _ hf => exact impliedOp_flags hf s
  | fetches => dsimp only; rw [(fetchOperands_onlyRead _ s).1]; simp [FlagsChangeBy]

/-- Settles O18. -/
theorem flagsChangeOnlyByTheirInstructions : Obligations.FlagsChangeOnlyByTheirInstructions := by
  intro i s t h
  obtain ⟨f, hf, rfl⟩ := exec_eq_next h
  exact meaning_flags hf s

/-! ## Registers (R21 to R23) -/

/-- A, X, Y and SP differ between `s` and `t` only where the mnemonic, or for A the mode, lets them change. -/
def RegistersChangeBy (mn : Mnemonic) (mode : Option Mode) (s t : State) : Prop :=
  (t.a ≠ s.a → mn ∈ [.lda, .adc, .sbc, .and, .ora, .eor, .txa, .tya, .pla] ∨
    (mode = some .accumulator ∧ mn ∈ [.asl, .lsr, .rol, .ror, .inc, .dec])) ∧
  (t.x ≠ s.x → mn ∈ [.ldx, .tax, .tsx, .plx, .inx, .dex]) ∧
  (t.y ≠ s.y → mn ∈ [.ldy, .tay, .ply, .iny, .dey]) ∧
  (t.sp ≠ s.sp → mn ∈ [.txs, .pha, .php, .phx, .phy, .pla, .plp, .plx, .ply, .jsr, .rts, .brk, .rti])

theorem impliedOp_registers {mn : Mnemonic} {f : State → State} (h : impliedOp mn = some f) (mode : Option Mode)
    (s : State) : RegistersChangeBy mn mode s (f s) := by
  cases mn with
  | tax | tay | txa | tya | tsx | txs | inx | iny | dex | dey | clc | sec | cli | sei | cld | sed | clv | wai
  | stp =>
    cases h
    simp [RegistersChangeBy]
  | _ => cases h

theorem pull_registers {mn : Mnemonic} {g : State → Byte → State} (h : pullOp mn = some g) (mode : Option Mode)
    (s : State) : RegistersChangeBy mn mode s (g s.pull8.2 s.pull8.1) := by
  cases mn with
  | pla | plx | ply | plp =>
    cases h
    simp [RegistersChangeBy]
  | _ => cases h

/-- A read-modify-write changes A only in the accumulator mode (R131). -/
theorem writeM_registers {mn : Mnemonic} {m : Mode} {s t u : State} {v : Byte}
    (hmn : m = .accumulator → mn ∈ [.asl, .lsr, .rol, .ror, .inc, .dec])
    (ha : u.a = s.a) (hx : t.x = s.x) (hy : t.y = s.y) (hsp : t.sp = s.sp)
    (ht : t.a = (writeM (resolve m s).1 v u).a) : RegistersChangeBy mn (some m) s t := by
  refine ⟨fun hne => ?_, fun h => absurd hx h, fun h => absurd hy h, fun h => absurd hsp h⟩
  by_cases hm : m = .accumulator
  · exact .inr ⟨congrArg some hm, hmn hm⟩
  · rw [ht, writeM_a (resolve_loc_ne_acc hm s), ha] at hne
    exact absurd rfl hne

theorem meaning_registers {i : Instr} {f : State → State} (hf : Meaning i f) (s : State) :
    RegistersChangeBy (mnemonicOf i) (modeOf i) s (f s) := by
  cases hf with
  | lda _ hi | ldx _ hi | ldy _ hi =>
    simp [RegistersChangeBy, opLda, opLdx, opLdy, hi]
  | store hm _ hne =>
    exact hm ▸ writeM_registers (u := (resolve _ s).2) (fun h => absurd h hne) (by simp) (by simp [opStore])
      (by simp [opStore]) (by simp [opStore]) rfl
  | testModify hm _ hne =>
    exact hm ▸ writeM_registers (u := (afterOperand _ s).setZ _) (fun h => absurd h hne) (by simp [afterOperand])
      (by simp [opTestModify]) (by simp [opTestModify]) (by simp [opTestModify]) rfl
  | bitModify hm =>
    exact hm ▸ writeM_registers (u := afterOperand _ s) nofun (by simp [afterOperand]) (by simp [opBitModify])
      (by simp [opBitModify]) (by simp [opBitModify]) rfl
  | compare | jmp =>
    simp [RegistersChangeBy, opCompare, opJmp]
  | adc _ hi => rw [opAdc, addOperand_frame]; simp [RegistersChangeBy, hi]
  | sbc _ hi => rw [opSbc, subOperand_frame]; simp [RegistersChangeBy, hi]
  | bit _ hi => rw [opBit, bitTest_frame]; simp [RegistersChangeBy]
  | logic _ hf =>
    rcases mnemonic_of_logicFunction hf with hi | hi | hi <;> simp [RegistersChangeBy, opLogic, hi]
  | modify hm hf =>
    refine hm ▸ writeM_registers (u := afterOperand _ s) (fun _ => ?_) (by simp [afterOperand])
      (by simp [opModify]) (by simp [opModify]) (by simp [opModify]) rfl
    rcases mnemonic_of_byteStep hf with hi | hi <;> simp [hi]
  | shift hm hf =>
    refine hm ▸ writeM_registers (u := (afterOperand _ s).setC _) (fun _ => ?_) (by simp [afterOperand])
      (by simp [opShift]) (by simp [opShift]) (by simp [opShift]) rfl
    rcases mnemonic_of_shiftFunction (hf s.flagC) with hi | hi | hi | hi <;> simp [hi]
  | branch => dsimp only; rw [opBranch, branchIf_frame]; simp [RegistersChangeBy]
  | bitBranch => rw [opBitBranch, branchIf_frame]; simp [RegistersChangeBy]
  | jsr _ hi | rts _ hi | brk _ hi | rti _ hi =>
    simp [RegistersChangeBy, opJsr, State.jsrPushed, opRts, opBrk, opRti, State.returnFromInterrupt, hi]
  | push _ hv =>
    rcases mnemonic_of_pushedByte (hv s) with hi | hi | hi | hi <;> simp [RegistersChangeBy, hi]
  | pull _ hg => exact pull_registers hg _ s
  | implied _ hf => exact impliedOp_registers hf _ s
  | fetches => dsimp only; rw [(fetchOperands_onlyRead _ s).1]; simp [RegistersChangeBy]

/-- Settles O19. -/
theorem registersChangeOnlyByTheirInstructions : Obligations.RegistersChangeOnlyByTheirInstructions := by
  intro i s t h
  obtain ⟨f, hf, rfl⟩ := exec_eq_next h
  exact meaning_registers hf s
end Sys2Proof.Proofs.Instructions
end

section
/-! What one instruction can do to a state, whatever it is: Bus writes, bytes off the UART queue, and the CPU's own
fields. Every fact that holds of these moves holds of every instruction (R62, R81, R107). -/

namespace Sys2Proof.Proofs.Instructions

open Sys2Proof.Machine Sys2Proof.Laws Sys2Proof.Proofs.LoadStore Sys2Proof.Proofs.Arithmetic
open Sys2Proof.Proofs.Logic Sys2Proof.Proofs.System Sys2Proof.Proofs.Control Sys2Proof.Proofs.Reset

/-- `s` with the CPU's own fields, the counts of the CPU and the UART queue blanked: what the moves below leave. -/
def withoutCpu (s : State) : State :=
  { s with
    a := 0, x := 0, y := 0, sp := 0, pc := 0, flagN := false, flagV := false, flagD := false, flagI := false
    flagZ := false, flagC := false, run := .running, cycles := 0, freeCount := 0, uartQueue := [] }

/-- `t` comes from `s` by Bus writes, and by moves of the CPU's own fields that may take bytes off the UART queue. -/
inductive Moves (s : State) : State → Prop
  | refl : Moves s s
  | write {t} (h : Moves s t) (ea : Word) (v : Byte) : Moves s (t.write8 ea v)
  | cpu {t u} (h : Moves s t) (hu : withoutCpu u = withoutCpu t) (hq : u.uartQueue <:+ t.uartQueue) : Moves s u

namespace Moves

theorem trans {s t u : State} (hst : Moves s t) (htu : Moves t u) : Moves s u := by
  induction htu with
  | refl => exact hst
  | write _ ea v ih => exact ih.write ea v
  | cpu _ hu hq ih => exact ih.cpu hu hq

/-- A move of the CPU's own fields that leaves the queue. -/
theorem set {s t u : State} (h : Moves s t) (hu : withoutCpu u = withoutCpu t)
    (hq : u.uartQueue = t.uartQueue) : Moves s u := h.cpu hu (hq ▸ List.suffix_refl _)

/-- A move whose equation shows which of the CPU's own fields it sets. -/
theorem of_frame {s t : State} {u : State} (ht : t = u) (hu : withoutCpu u = withoutCpu s)
    (hq : u.uartQueue = s.uartQueue) : Moves s t := ht ▸ refl.set hu hq

theorem of_onlyRead {s t : State} {n : Nat} (h : OnlyRead s t n) : Moves s t :=
  refl.cpu (congrArg withoutCpu h.1 :) h.2

end Moves

section
variable (s : State)

theorem afterAddress_moves (m : Mode) : Moves s (afterAddress m s) := .of_onlyRead (afterAddress_onlyRead s m)

theorem afterOperand_moves (m : Mode) : Moves s (afterOperand m s) := .of_onlyRead (afterOperand_onlyRead s m)

theorem writeM_moves (o : Operand) (v : Byte) : Moves s (writeM o v s) := by
  rcases writeM_cases o v s with ⟨_, h⟩ | ⟨_, _, h⟩ | ⟨ea, _, h⟩ <;> rw [h]
  · exact Moves.refl.set rfl rfl
  · exact .refl
  · exact Moves.refl.write ea v

theorem push8_moves (v : Byte) : Moves s (s.push8 v) := (Moves.refl.write _ v).set rfl rfl

theorem push16_moves (w : Word) : Moves s (s.push16 w) := (push8_moves s _).trans (push8_moves _ _)

theorem pull8_moves : Moves s s.pull8.2 := Moves.refl.cpu rfl (pull8_queue_suffix s)

theorem pull16_moves : Moves s s.pull16.2 := (pull8_moves s).trans (pull8_moves s.pull8.2)

theorem loadVector_queue_suffix (k : VectorKind) : (s.loadVector k).uartQueue <:+ s.uartQueue := by
  cases h : k.override s.cfg with
  | some w => rw [loadVector_override s k w h]; exact List.suffix_refl _
  | none => rw [loadVector_read s k h]; exact (read16_onlyRead s k.addr).2

theorem loadVector_moves (k : VectorKind) : Moves s (s.loadVector k) :=
  Moves.refl.cpu (congrArg withoutCpu (loadVector_eq s k) :) (loadVector_queue_suffix s k)

theorem enterVector_moves (k : VectorKind) (b : Bool) : Moves s (s.enterVector k b) := by
  have pushed : Moves s ((s.push16 s.pc).push8 ((s.push16 s.pc).pByte b)) :=
    (push16_moves s s.pc).trans (push8_moves _ _)
  have flags : Moves s ((((s.push16 s.pc).push8 ((s.push16 s.pc).pByte b)).setI true).setD false) :=
    pushed.set rfl rfl
  exact flags.trans (loadVector_moves _ k)

theorem returnFromInterrupt_moves : Moves s s.returnFromInterrupt :=
  (((pull8_moves s).set (u := s.pull8.2.setP s.pull8.1) rfl rfl).trans (pull16_moves _)).set rfl rfl

theorem addOperand_moves (v : Byte) : Moves s (s.addOperand v) := .of_frame (addOperand_frame s v) rfl rfl

theorem subOperand_moves (v : Byte) : Moves s (s.subOperand v) := .of_frame (subOperand_frame s v) rfl rfl

theorem bitTest_moves (v : Byte) (immediate : Bool) : Moves s (s.bitTest v immediate) :=
  .of_frame (bitTest_frame s v immediate) rfl rfl

theorem branchIf_moves (taken : Bool) (d : Byte) (base : Nat) : Moves s (s.branchIf taken d base) :=
  .of_frame (branchIf_frame s taken d base) rfl rfl

end

theorem impliedOp_moves {mn : Mnemonic} {f : State → State} (h : impliedOp mn = some f) (s : State) :
    Moves s (f s) := by
  cases mn with
  | tax | tay | txa | tya | tsx | txs | inx | iny | dex | dey | clc | sec | cli | sei | cld | sed | clv | wai
  | stp =>
    cases h
    exact Moves.refl.set rfl rfl
  | _ => cases h

theorem pullOp_moves {mn : Mnemonic} {g : State → Byte → State} (h : pullOp mn = some g) (s : State) (v : Byte) :
    Moves s (g s v) := by
  cases mn with
  | pla | plx | ply | plp =>
    cases h
    exact Moves.refl.set rfl rfl
  | _ => cases h

theorem meaning_moves {i : Instr} {f : State → State} (hf : Meaning i f) (s : State) : Moves s (f s) := by
  cases hf with
  | lda | ldx | ldy | compare | logic => exact (afterOperand_moves s _).set rfl rfl
  | adc => exact ((afterOperand_moves s _).trans (addOperand_moves _ _)).set rfl rfl
  | sbc => exact ((afterOperand_moves s _).trans (subOperand_moves _ _)).set rfl rfl
  | bit => exact ((afterOperand_moves s _).trans (bitTest_moves _ _ _)).set rfl rfl
  | store => exact ((afterAddress_moves s _).trans (writeM_moves _ _ _)).set rfl rfl
  | modify | bitModify => exact ((afterOperand_moves s _).trans (writeM_moves _ _ _)).set rfl rfl
  | @testModify m =>
    have tested : Moves s ((afterOperand m s).setZ ((s.a &&& operandValue m s) == 0x00)) :=
      (afterOperand_moves s m).set rfl rfl
    exact (tested.trans (writeM_moves _ _ _)).set rfl rfl
  | @shift m f =>
    have carried : Moves s ((afterOperand m s).setC (f s.flagC (operandValue m s)).c) :=
      (afterOperand_moves s m).set rfl rfl
    exact (carried.trans (writeM_moves _ _ _)).set rfl rfl
  | branch => exact (Moves.of_onlyRead (operandFetch_onlyRead s)).trans (branchIf_moves _ _ _ _)
  | bitBranch => exact (Moves.of_onlyRead (bitBranch_onlyRead s _)).trans (branchIf_moves _ _ _ _)
  | jmp => exact (afterAddress_moves s _).set rfl rfl
  | jsr =>
    exact (((Moves.of_onlyRead (operandFetch_onlyRead s)).trans (push16_moves _ _)).trans
      (.of_onlyRead (operandFetch_onlyRead _))).set rfl rfl
  | rts => exact (pull16_moves s).set rfl rfl
  | brk => exact ((Moves.of_onlyRead (operandFetch_onlyRead s)).trans (enterVector_moves _ _ _)).set rfl rfl
  | rti => exact (returnFromInterrupt_moves s).set rfl rfl
  | push => exact (push8_moves s _).set rfl rfl
  | pull _ hg => exact ((pull8_moves s).trans (pullOp_moves hg _ _)).set rfl rfl
  | implied _ hf => exact (impliedOp_moves hf s).set rfl rfl
  | fetches => exact (Moves.of_onlyRead (fetchOperands_onlyRead _ s)).set rfl rfl

theorem exec_moves {i : Instr} {s t : State} (h : exec i s = .next t) : Moves s t := by
  obtain ⟨f, hf, rfl⟩ := exec_eq_next h
  exact meaning_moves hf s

/-! ## What no move changes (R67, R81) -/

/-- What belongs to the host, to startup and to the frame machinery is as it was, and the UART queue has at most lost
bytes. -/
structure HostFrame (s t : State) : Prop where
  cfg : t.cfg = s.cfg
  nmiLine : t.nmiLine = s.nmiLine
  nmiLatch : t.nmiLatch = s.nmiLatch
  irqLine : t.irqLine = s.irqLine
  uartOverrun : t.uartOverrun = s.uartOverrun
  kbdMatrix : t.kbdMatrix = s.kbdMatrix
  videoGen : t.videoGen = s.videoGen
  videoSnapshot : t.videoSnapshot = s.videoSnapshot
  frameCycles : t.frameCycles = s.frameCycles
  queue : t.uartQueue <:+ s.uartQueue

theorem HostFrame.trans {s t u : State} (hst : HostFrame s t) (htu : HostFrame t u) : HostFrame s u where
  cfg := htu.cfg.trans hst.cfg
  nmiLine := htu.nmiLine.trans hst.nmiLine
  nmiLatch := htu.nmiLatch.trans hst.nmiLatch
  irqLine := htu.irqLine.trans hst.irqLine
  uartOverrun := htu.uartOverrun.trans hst.uartOverrun
  kbdMatrix := htu.kbdMatrix.trans hst.kbdMatrix
  videoGen := htu.videoGen.trans hst.videoGen
  videoSnapshot := htu.videoSnapshot.trans hst.videoSnapshot
  frameCycles := htu.frameCycles.trans hst.frameCycles
  queue := htu.queue.trans hst.queue

theorem write8_hostFrame (s : State) (ea : Word) (v : Byte) : HostFrame s (s.write8 ea v) := by
  constructor <;> simp

theorem hostFrame_of_withoutCpu {s t : State} (h : withoutCpu t = withoutCpu s) (hq : t.uartQueue <:+ s.uartQueue) :
    HostFrame s t where
  cfg := (congrArg State.cfg h :)
  nmiLine := (congrArg State.nmiLine h :)
  nmiLatch := (congrArg State.nmiLatch h :)
  irqLine := (congrArg State.irqLine h :)
  uartOverrun := (congrArg State.uartOverrun h :)
  kbdMatrix := (congrArg State.kbdMatrix h :)
  videoGen := (congrArg State.videoGen h :)
  videoSnapshot := (congrArg State.videoSnapshot h :)
  frameCycles := (congrArg State.frameCycles h :)
  queue := hq

theorem Moves.hostFrame {s t : State} (h : Moves s t) : HostFrame s t := by
  induction h with
  | refl => exact hostFrame_of_withoutCpu rfl (List.suffix_refl _)
  | write _ ea v ih => exact ih.trans (write8_hostFrame _ ea v)
  | cpu _ hu hq ih => exact ih.trans (hostFrame_of_withoutCpu hu hq)

/-- Settles O7: every instruction has a meaning, and a meaning is moves. -/
theorem everyInstructionCompletes : Obligations.EveryInstructionCompletes := by
  intro i s
  obtain ⟨f, hf, hexec⟩ := exec_meaning i
  have h := (meaning_moves hf s).hostFrame
  exact ⟨f s, hexec s, h.cfg, h.nmiLine, h.nmiLatch, h.irqLine, h.uartOverrun, h.kbdMatrix, h.videoGen,
    h.videoSnapshot, h.frameCycles, h.queue⟩

end Sys2Proof.Proofs.Instructions
end

section
/-! Proofs about the step (R350, R351, R360) and the frame tick (R78, R79, R371). -/

namespace Sys2Proof.Proofs.Step

open Sys2Proof.Machine Sys2Proof.Laws Sys2Proof.Proofs.Instructions Sys2Proof.Proofs.Exceptions

/-! ## No step fails (R350) -/

theorem exec_safe (i : Instr) (s : State) : Safe (exec i s) := by
  obtain ⟨f, _, hexec⟩ := exec_meaning i
  exact ⟨f s, hexec s⟩

theorem boundaryStep_safe (s : State) : Safe (boundaryStep s) := by
  unfold boundaryStep
  split
  · exact ⟨_, rfl⟩
  · split
    · exact ⟨_, rfl⟩
    · exact exec_safe _ _

theorem cpuStep_safe (s : State) : Safe (cpuStep s) := by
  unfold cpuStep
  split
  · exact ⟨_, rfl⟩
  · split
    · exact boundaryStep_safe _
    · exact ⟨_, rfl⟩
  · exact boundaryStep_safe s

theorem step_of_cpuStep {s t : State} (h : cpuStep s = .next t) : step s = .next t.afterStep := by
  rw [step, h]

/-- Settles O8: the CPU step answers a state, and the frame tick keeps it one. -/
theorem stepNeverFails : Obligations.StepNeverFails := by
  intro s
  obtain ⟨t, ht⟩ := cpuStep_safe s
  exact ⟨t.afterStep, step_of_cpuStep ht⟩

/-- What a step that answers `t` did: a CPU step, and the frame tick with its count. -/
theorem step_eq_next {s t : State} (h : step s = .next t) :
    ∃ u, cpuStep s = .next u ∧ t = u.frameTick u.cycles := by
  obtain ⟨u, hu⟩ := cpuStep_safe s
  rw [step_of_cpuStep hu] at h
  cases h
  exact ⟨u, hu, rfl⟩

/-! ## Waiting (R351) -/

section
variable {s : State}

theorem cpuStep_of_waitingIdle (hrun : s.run = .waiting) (hnone : (s.nmiLatch || s.irqLine) = false) :
    cpuStep s = .next s.idleTick := by
  simp only [cpuStep, hrun, hnone, Bool.false_eq_true, if_false]

theorem cpuStep_of_waitingWoken (hrun : s.run = .waiting) (hsome : (s.nmiLatch || s.irqLine) = true) :
    cpuStep s = boundaryStep (s.setRun .running) := by
  simp only [cpuStep, hrun, hsome, if_true]

end

/-- Settles O21: nothing pending is an idle tick, and anything pending makes the CPU run before its boundary. -/
theorem waitingIdlesOrWakes : Obligations.WaitingIdlesOrWakes := by
  intro s hrun
  refine ⟨fun hnone => step_of_cpuStep (cpuStep_of_waitingIdle hrun hnone), fun hsome => ?_, fun hnmi hirq hI => ?_⟩
  · have woken : cpuStep s = cpuStep (s.setRun .running) :=
      (cpuStep_of_waitingWoken hrun hsome).trans (cpuStep_of_running rfl).symm
    rw [step, woken, step]
  · rw [cpuStep_of_waitingWoken hrun (by simp [hirq])]
    exact Fetch.boundaryStep_of_quiet hnmi (by simp [hI])

/-- Settles O53: each meaning is the run state under the count of its row. -/
theorem waitAndStop : Obligations.WaitAndStop := fun _ => ⟨rfl, rfl⟩

/-! ## The frame tick (R78, R79) -/

/-- One turn of the loop of R78. -/
def countFrame (s : State) : State :=
  { s with
    frameCycles := s.frameCycles - s.cfg.cyclesPerFrame
    videoGen := s.videoGen + 1
    videoSnapshot := s.videoBuf }

/-- All turns of the loop of R78 at once, by division. -/
def countFrames (s : State) : State :=
  { s with
    frameCycles := s.frameCycles % s.cfg.cyclesPerFrame
    videoGen := s.videoGen + s.frameCycles / s.cfg.cyclesPerFrame
    videoSnapshot := if s.cfg.cyclesPerFrame ≤ s.frameCycles then s.videoBuf else s.videoSnapshot }

theorem countFrames_of_open {s : State} (h : s.frameCycles < s.cfg.cyclesPerFrame) : countFrames s = s := by
  rw [countFrames, Nat.mod_eq_of_lt h, Nat.div_eq_of_lt h, if_neg (by omega), Nat.add_zero]

theorem countFrames_countFrame {s : State} (h : 0 < s.cfg.cyclesPerFrame)
    (hle : s.cfg.cyclesPerFrame ≤ s.frameCycles) : countFrames (countFrame s) = countFrames s := by
  have hgen : s.videoGen + s.frameCycles / s.cfg.cyclesPerFrame =
      s.videoGen + 1 + (s.frameCycles - s.cfg.cyclesPerFrame) / s.cfg.cyclesPerFrame := by
    rw [Nat.div_eq_sub_div h hle]
    omega
  have hsnapshot : (if (countFrame s).cfg.cyclesPerFrame ≤ (countFrame s).frameCycles then (countFrame s).videoBuf
      else (countFrame s).videoSnapshot) = s.videoBuf := ite_self _
  rw [countFrames, hsnapshot, countFrames, hgen, Nat.mod_eq_sub_mod hle, if_pos hle]
  rfl

theorem frameLoop_eq {s : State} (h : 0 < s.cfg.cyclesPerFrame) (fuel : Nat) (hfuel : s.frameCycles ≤ fuel) :
    State.frameLoop fuel s = countFrames s := by
  induction fuel generalizing s with
  | zero =>
    have hopen : s.frameCycles < s.cfg.cyclesPerFrame := by omega
    exact (countFrames_of_open hopen).symm
  | succ fuel ih =>
    unfold State.frameLoop
    split
    next hframe =>
      have less : (countFrame s).frameCycles ≤ fuel := Nat.sub_le_of_le_add (by omega)
      exact (ih (s := countFrame s) h less).trans (countFrames_countFrame h hframe.1)
    next hopen => exact (countFrames_of_open (by omega)).symm

/-- Settles O57: as many turns as accumulated cycles are enough. -/
theorem frameTickCountsFrames : Obligations.FrameTickCountsFrames := fun s n h =>
  frameLoop_eq (s := { s with frameCycles := s.frameCycles + n }) h _ (Nat.le_refl _)

/-! ## A stopped machine (R332, R360) -/

theorem cpuStep_of_stopped {s : State} (h : s.run = .stopped) : cpuStep s = .next s.idleTick := by
  simp only [cpuStep, h]

/-- How many cycles the frame machinery of `s` has counted, with `c` cycles a frame. -/
def countedCycles (c : Nat) (s : State) : Nat := s.videoGen * c + s.frameCycles

theorem frameTick_countedCycles {s : State} (h : 0 < s.cfg.cyclesPerFrame) (n : Nat) :
    countedCycles s.cfg.cyclesPerFrame (s.frameTick n) = countedCycles s.cfg.cyclesPerFrame s + n := by
  have split := Nat.div_add_mod (s.frameCycles + n) s.cfg.cyclesPerFrame
  rw [frameTickCountsFrames s n h, countedCycles, countedCycles, Nat.add_mul, Nat.mul_comm (_ / _)]
  simp only
  omega

/-- The frame tick does not reach what the CPU sees (R435). -/
theorem frameTick_cpuView (s : State) (n : Nat) : (s.frameTick n).cpuView = s.cpuView :=
  (congrArg State.cpuView (frameTick_frame s n) :)

theorem run_succ {s t : State} (h : step s = .next t) (n : Nat) : core.run (n + 1) s = core.run n t := by
  have hcore : core.step s = .next t := h
  simp only [Host.Core.run, hcore]

/-- Settles O20, by induction on the steps: each is an idle tick of one cycle. -/
theorem stoppedMachineOnlyIdles : Obligations.StoppedMachineOnlyIdles := by
  intro n s hrun inv
  have positive : 0 < s.cfg.cyclesPerFrame := Nat.zero_lt_of_lt inv.frameOpen
  clear inv
  induction n generalizing s with
  | zero => exact ⟨s, rfl, rfl, rfl⟩
  | succ n ih =>
    obtain ⟨t, ht, view, counted⟩ := ih (s.idleTick.frameTick 1) ((frameTick_run _ 1).trans hrun)
      ((frameTick_cfg s.idleTick 1).symm ▸ positive)
    have idled : core.run (n + 1) s = core.run n (s.idleTick.frameTick 1) :=
      run_succ (step_of_cpuStep (cpuStep_of_stopped hrun)) n
    have once : countedCycles s.cfg.cyclesPerFrame (s.idleTick.frameTick 1) =
        countedCycles s.cfg.cyclesPerFrame s + 1 := frameTick_countedCycles (s := s.idleTick) positive 1
    have total : countedCycles s.cfg.cyclesPerFrame t = countedCycles s.cfg.cyclesPerFrame s + (n + 1) := by
      rw [frameTick_cfg] at counted
      rw [Nat.add_comm n, ← Nat.add_assoc, ← once]
      exact counted
    exact ⟨t, idled.trans ht, view.trans (frameTick_cpuView s.idleTick 1), total⟩

end Sys2Proof.Proofs.Step
end

section
/-! The frame machinery never reaches the CPU (R42, R435): every operation gives the same view from a state and from
its view, and so does every run. -/

namespace Sys2Proof.Proofs.FrameView

open Sys2Proof.Machine Sys2Proof.Laws Sys2Proof.Proofs.Instructions Sys2Proof.Proofs.Step
open Sys2Proof.Proofs.LoadStore Sys2Proof.Proofs.Arithmetic Sys2Proof.Proofs.Logic Sys2Proof.Proofs.System

/-! ## Operations that commute with taking the view -/

section
variable (s : State)

theorem cpuView_cpuView : s.cpuView.cpuView = s.cpuView := rfl

theorem cpuView_a : s.cpuView.a = s.a := rfl

theorem cpuView_flagC : s.cpuView.flagC = s.flagC := rfl

theorem pull8_cpuView : s.cpuView.pull8 = (s.pull8.1, s.pull8.2.cpuView) := rfl

theorem charge_cpuView (k : Cost) (c : Bool) : (s.charge k c).cpuView = s.cpuView := rfl

theorem setNZ_cpuView (v : Byte) : (s.setNZ v).cpuView = s.cpuView.setNZ v := rfl

theorem setZ_cpuView (b : Bool) : (s.setZ b).cpuView = s.cpuView.setZ b := rfl

theorem setC_cpuView (b : Bool) : (s.setC b).cpuView = s.cpuView.setC b := rfl

theorem write8_cpuView (ea : Word) (v : Byte) : (s.write8 ea v).cpuView = s.cpuView.write8 ea v := by
  have region : s.cpuView.regionAt ea = s.regionAt ea := rfl
  have row : s.cpuView.cfg.kbdRowAddr = s.cfg.kbdRowAddr := rfl
  unfold State.write8
  rw [region, row]
  by_cases h : ea = s.cfg.kbdRowAddr
  · simp only [if_pos h]
    split <;> rfl
  · simp only [if_neg h]
    split <;> rfl

theorem writeM_cpuView (o : Operand) (v : Byte) : (writeM o v s).cpuView = writeM o v s.cpuView := by
  unfold writeM
  split
  · rfl
  · rfl
  · exact write8_cpuView s _ v

theorem push8_cpuView (v : Byte) : (s.push8 v).cpuView = s.cpuView.push8 v :=
  congrArg (·.setSP (s.sp - 1)) (write8_cpuView s (stackAddr s.sp) v)

theorem push16_cpuView (w : Word) : (s.push16 w).cpuView = s.cpuView.push16 w := by
  rw [State.push16, push8_cpuView, push8_cpuView, State.push16]

theorem jsrPushed_cpuView : s.jsrPushed.cpuView = s.cpuView.jsrPushed := push16_cpuView s.operandFetch _

theorem loadVector_cpuView (k : VectorKind) : (s.loadVector k).cpuView = s.cpuView.loadVector k := by
  cases h : k.override s.cfg with
  | some w => rw [loadVector_override s k w h, loadVector_override s.cpuView k w h]; rfl
  | none => rw [loadVector_read s k h, loadVector_read s.cpuView k h]; rfl

theorem enterVector_cpuView (k : VectorKind) (b : Bool) : (s.enterVector k b).cpuView = s.cpuView.enterVector k b := by
  have pushed : ((s.push16 s.pc).push8 ((s.push16 s.pc).pByte b)).cpuView =
      (s.cpuView.push16 s.cpuView.pc).push8 ((s.cpuView.push16 s.cpuView.pc).pByte b) := by
    rw [push8_cpuView]
    exact congrArg (fun t : State => t.push8 (t.pByte b)) (push16_cpuView s s.pc)
  rw [State.enterVector, loadVector_cpuView, State.enterVector, ← pushed]
  rfl

theorem addOperand_cpuView (v : Byte) : (s.addOperand v).cpuView = s.cpuView.addOperand v := by
  unfold State.addOperand
  simp only [apply_ite State.cpuView]
  rfl

theorem subOperand_cpuView (v : Byte) : (s.subOperand v).cpuView = s.cpuView.subOperand v := by
  unfold State.subOperand
  simp only [apply_ite State.cpuView]
  rfl

theorem bitTest_cpuView (v : Byte) (immediate : Bool) :
    (s.bitTest v immediate).cpuView = s.cpuView.bitTest v immediate := by
  cases immediate <;> rfl

theorem branchIf_cpuView (taken : Bool) (d : Byte) (base : Nat) :
    (s.branchIf taken d base).cpuView = (s.cpuView.branchIf taken d base).cpuView := by
  cases taken <;> rfl

theorem fetchOperands_cpuView (n : Nat) : (fetchOperands n s).cpuView = fetchOperands n s.cpuView := by
  induction n generalizing s with
  | zero => rfl
  | succ n ih => exact ih s.operandFetch

variable (m : Mode)

/-- No mode reads the frame machinery. -/
theorem resolve_cpuView : resolve m s.cpuView = ((resolve m s).1, (resolve m s).2.cpuView) := by
  cases m <;> rfl

theorem readM_cpuView (o : Operand) : readM o s.cpuView = ((readM o s).1, (readM o s).2.cpuView) := by
  unfold readM
  split <;> rfl

end

/-! ## Meanings -/

section
variable {mn : Mnemonic} {s : State}

theorem impliedOp_cpuView {f : State → State} (h : impliedOp mn = some f) : (f s).cpuView = f s.cpuView := by
  cases mn with
  | tax | tay | txa | tya | tsx | txs | inx | iny | dex | dey | clc | sec | cli | sei | cld | sed | clv | wai
  | stp =>
    cases h
    rfl
  | _ => cases h

theorem pullOp_cpuView {g : State → Byte → State} (h : pullOp mn = some g) (v : Byte) :
    (g s v).cpuView = g s.cpuView v := by
  cases mn with
  | pla | plx | ply | plp =>
    cases h
    rfl
  | _ => cases h

/-- What an instruction reads of the registers, it reads of the view too. -/
theorem eq_of_reads {α : Type} {v : State → α} {get : State → Option α} (hv : ∀ s, get s = some (v s))
    (h : get s.cpuView = get s) : v s.cpuView = v s :=
  Option.some.inj ((hv _).symm.trans (h.trans (hv s)))

end

theorem meaning_cpuView {i : Instr} {f : State → State} (hf : Meaning i f) (s : State) :
    (f s).cpuView = (f s.cpuView).cpuView := by
  cases hf with
  | lda | ldx | ldy => simp only [opLda, opLdx, opLdy, resolve_cpuView, readM_cpuView]; rfl
  | adc => simp only [opAdc, resolve_cpuView, readM_cpuView, charge_cpuView, addOperand_cpuView, cpuView_cpuView]
  | sbc => simp only [opSbc, resolve_cpuView, readM_cpuView, charge_cpuView, subOperand_cpuView, cpuView_cpuView]
  | bit => simp only [opBit, resolve_cpuView, readM_cpuView, charge_cpuView, bitTest_cpuView, cpuView_cpuView]
  | @store m v _ hv =>
    have value : v s.cpuView = v s := eq_of_reads hv rfl
    simp only [opStore, resolve_cpuView, value, charge_cpuView, writeM_cpuView, cpuView_cpuView]
  | @compare m r _ hr =>
    have register : r s.cpuView = r s := eq_of_reads hr rfl
    simp only [opCompare, resolve_cpuView, readM_cpuView, register]; rfl
  | logic => simp only [opLogic, resolve_cpuView, readM_cpuView]; rfl
  | modify =>
    simp only [opModify, resolve_cpuView, readM_cpuView, charge_cpuView, setNZ_cpuView, writeM_cpuView, cpuView_cpuView]
  | testModify =>
    simp only [opTestModify, resolve_cpuView, readM_cpuView, charge_cpuView, writeM_cpuView, setZ_cpuView,
      cpuView_a, cpuView_cpuView]
  | shift =>
    simp only [opShift, resolve_cpuView, readM_cpuView, charge_cpuView, setNZ_cpuView, writeM_cpuView, setC_cpuView,
      cpuView_flagC, cpuView_cpuView]
  | bitModify =>
    simp only [opBitModify, resolve_cpuView, readM_cpuView, charge_cpuView, writeM_cpuView, cpuView_cpuView]
  | @branch taken d hi =>
    have cond : taken s.cpuView = taken s := eq_of_reads hi rfl
    simp only [opBranch, cond]
    exact branchIf_cpuView s.operandFetch _ d 2
  | bitBranch => exact branchIf_cpuView _ _ _ 5
  | jmp => simp only [opJmp, resolve_cpuView]; rfl
  | jsr => simp only [opJsr, charge_cpuView, ← jsrPushed_cpuView]; rfl
  | rts => rfl
  | brk => simp only [opBrk, charge_cpuView, enterVector_cpuView]; rfl
  | rti => rfl
  | @push v _ hv =>
    have value : v s.cpuView = v s := eq_of_reads hv rfl
    simp only [value, charge_cpuView, push8_cpuView, cpuView_cpuView]
  | pull _ hg => simp only [charge_cpuView, pull8_cpuView, pullOp_cpuView hg, cpuView_cpuView]
  | implied _ hf => simp only [charge_cpuView, impliedOp_cpuView hf, cpuView_cpuView]
  | fetches => simp only [charge_cpuView, fetchOperands_cpuView, cpuView_cpuView]


/-! ## Steps, host actions and runs -/

/-- The view of the state that a result answers. -/
def resultView : Result → Result
  | .next t => .next t.cpuView
  | .fault f => .fault f
  | .refused r => .refused r

theorem exec_cpuView (i : Instr) (s : State) : resultView (exec i s) = resultView (exec i s.cpuView) := by
  obtain ⟨f, hf, hexec⟩ := exec_meaning i
  rw [hexec, hexec]
  exact congrArg Host.Outcome.next (meaning_cpuView hf s)

theorem beforeThirdByte_cpuView (op o1 : Byte) (s : State) :
    (s.beforeThirdByte op o1).cpuView = s.cpuView.beforeThirdByte op o1 := by
  unfold State.beforeThirdByte
  simp only [apply_ite State.cpuView, jsrPushed_cpuView]
  rfl

theorem fetchedBytes_cpuView (s : State) : s.cpuView.fetchedBytes = s.fetchedBytes := by
  have third (op o1 : Byte) : (s.cpuView.fetch8.2.beforeThirdByte op o1) = (s.fetch8.2.beforeThirdByte op o1).cpuView :=
    (beforeThirdByte_cpuView op o1 s.fetch8.2).symm
  have bytes (t : State) : t.cpuView.busValue t.cpuView.pc = t.busValue t.pc := rfl
  have opcode : s.cpuView.fetch8.1 = s.fetch8.1 := rfl
  have fetched : s.cpuView.fetch8.2 = s.fetch8.2.cpuView := rfl
  simp only [State.fetchedBytes, third, opcode, bytes]
  simp only [fetched, bytes]

theorem fetchInstr_cpuView (s : State) : fetchInstr s.cpuView = ((fetchInstr s).1, (fetchInstr s).2.cpuView) := by
  rw [fetchInstr, fetchedBytes_cpuView]
  rfl

theorem enterInterrupt_cpuView (s : State) (k : VectorKind) :
    (s.enterInterrupt k).cpuView = (s.cpuView.enterInterrupt k).cpuView :=
  (enterVector_cpuView s k false).trans (enterVector_cpuView s.cpuView k false).symm

theorem boundaryStep_cpuView (s : State) : resultView (boundaryStep s) = resultView (boundaryStep s.cpuView) := by
  unfold boundaryStep
  split
  next hnmi =>
    rw [if_pos (c := s.cpuView.nmiLatch = true) hnmi]
    exact congrArg Host.Outcome.next (enterInterrupt_cpuView { s with nmiLatch := false } .nmi)
  next hnmi =>
    rw [if_neg (c := s.cpuView.nmiLatch = true) hnmi]
    split
    next hirq =>
      rw [if_pos (c := (s.cpuView.irqLine && !s.cpuView.flagI) = true) hirq]
      exact congrArg Host.Outcome.next (enterInterrupt_cpuView s .irq)
    next hirq =>
      rw [if_neg (c := (s.cpuView.irqLine && !s.cpuView.flagI) = true) hirq, fetchInstr_cpuView]
      exact exec_cpuView _ _

theorem cpuStep_cpuView (s : State) : resultView (cpuStep s) = resultView (cpuStep s.cpuView) := by
  have run : s.cpuView.run = s.run := rfl
  unfold cpuStep
  rw [run]
  cases s.run with
  | stopped => rfl
  | waiting =>
    simp only [apply_ite resultView]
    rw [boundaryStep_cpuView]
    rfl
  | running => exact boundaryStep_cpuView s

/-- The frame tick does not reach the view, so a step's view is its CPU step's. -/
theorem step_view (s : State) : resultView (step s) = resultView (cpuStep s) := by
  obtain ⟨t, ht⟩ := cpuStep_safe s
  rw [step_of_cpuStep ht, ht]
  exact congrArg Host.Outcome.next (frameTick_cpuView t t.cycles)

theorem step_cpuView (s : State) : resultView (step s) = resultView (step s.cpuView) := by
  rw [step_view, step_view, cpuStep_cpuView]

theorem hostAction_cpuView (s : State) (act : HostAction) :
    (s.hostAction act).cpuView = s.cpuView.hostAction act := by
  cases act with
  | keyEvent | setIrq | setNmi => rfl
  | reset =>
    exact congrArg (fun t : State => { t with uartQueue := s.uartQueue })
      (loadVector_cpuView (Reset.beforeVector s) .reset)

theorem hostActions_cpuView (s : State) (acts : List HostAction) :
    (s.hostActions acts).cpuView = s.cpuView.hostActions acts := by
  induction acts generalizing s with
  | nil => rfl
  | cons act acts ih =>
    have first : s.cpuView.hostActions (act :: acts) = (s.hostAction act).cpuView.hostActions acts :=
      congrArg (·.hostActions acts) (hostAction_cpuView s act).symm
    rw [first]
    exact ih (s.hostAction act)

theorem iterate_safe (acts : List HostAction) (s : State) : Safe (iterate acts s) := stepNeverFails _

theorem drive_cons {acts : List HostAction} {s t : State} (h : iterate acts s = .next t)
    (rest : List (List HostAction)) : drive (acts :: rest) s = drive rest t := by
  rw [drive, h]

/-- Two states with one view have runs with one view, under the same host actions. -/
theorem drive_sameView (acts : List (List HostAction)) {s s' : State} (h : s.cpuView = s'.cpuView) :
    resultView (drive acts s) = resultView (drive acts s') := by
  induction acts generalizing s s' with
  | nil => exact congrArg Host.Outcome.next h
  | cons now rest ih =>
    obtain ⟨t, ht⟩ := iterate_safe now s
    obtain ⟨t', ht'⟩ := iterate_safe now s'
    have acted : (s.hostActions now).cpuView = (s'.hostActions now).cpuView := by
      rw [hostActions_cpuView, hostActions_cpuView, h]
    have stepped : resultView (iterate now s) = resultView (iterate now s') := by
      rw [iterate, iterate, step_cpuView, acted, ← step_cpuView]
    rw [ht, ht'] at stepped
    rw [drive_cons ht, drive_cons ht']
    exact ih (Host.Outcome.next.inj stepped)

/-- Settles O17, by the views along the two runs. -/
theorem framesNeverReachTheCpu : Obligations.FramesNeverReachTheCpu := by
  intro acts s s' t t' h ht ht'
  have views := drive_sameView acts h
  rw [ht, ht'] at views
  exact Host.Outcome.next.inj views

end Sys2Proof.Proofs.FrameView
end

section
/-! The invariant of every reachable state: Bus writes and moves of the CPU keep it, and so do steps, host actions and
startup (R61, R69, R76, R78). -/

namespace Sys2Proof.Proofs.Invariant

open Sys2Proof.Machine Sys2Proof.Laws Sys2Proof.Proofs.Instructions Sys2Proof.Proofs.Step
open Sys2Proof.Proofs.Reset

/-! ## What a well-formed platform says -/

/-- The clauses of `Config.wellFormed`, by name. -/
structure Platform (c : Config) : Prop where
  formed : c.regions.all Region.wellFormed = true
  apart : regionsDisjoint c.regions = true
  frame : 0 < c.cyclesPerFrame
  video : c.regionsWithin .video c.videoBase.toNat c.videoSize = true
  uart : c.uartWellFormed = true
  keyboard : c.kbdWellFormed = true
  bank : c.bankWellFormed = true

theorem platform_of_wellFormed {c : Config} (h : c.wellFormed = true) : Platform c := by
  simp only [Config.wellFormed, Bool.and_eq_true, decide_eq_true_eq] at h
  obtain ⟨⟨⟨⟨⟨⟨formed, apart⟩, frame⟩, video⟩, uart⟩, keyboard⟩, bank⟩ := h
  exact ⟨formed, apart, frame, video, uart, keyboard, bank⟩

/-- What a wired bank register needs of its parameters (R61). -/
structure BankFormed (c : Config) (b : BankConfig) : Prop where
  someBank : 0 < b.count
  byteNames : b.count ≤ 256
  initial : b.init < b.count
  register : c.regionsWithin .bankReg b.regAddr.toNat 1 = true
  window : c.regionsWithin .bankWindow b.windowBase.toNat b.windowSize = true

theorem bankFormed_of_wired {c : Config} {b : BankConfig} (h : c.bankWellFormed = true) (hb : c.bank = some b) :
    BankFormed c b := by
  simp only [Config.bankWellFormed, hb, Bool.and_eq_true, decide_eq_true_eq] at h
  obtain ⟨⟨⟨⟨⟨⟨someBank, byteNames⟩, initial⟩, _⟩, _⟩, register⟩, window⟩ := h
  exact ⟨someBank, byteNames, initial, register, window⟩

/-- A mapped address lies in a region of its kind. -/
theorem exists_region_of_lookup {rs : List Region} {a : Word} {k : RegionKind} (h : lookupRegion rs a = some k) :
    ∃ r ∈ rs, r.kind = k ∧ r.lo ≤ a.toNat ∧ a.toNat ≤ r.hi := by
  obtain ⟨r, hfind, hk⟩ := Option.map_eq_some_iff.1 h
  have hhas := List.find?_some hfind
  simp only [regionHas, Bool.and_eq_true, decide_eq_true_eq] at hhas
  exact ⟨r, List.mem_of_find?_eq_some hfind, hk, hhas⟩

/-- Where all regions of a kind lie in a range, so does every address of that kind. -/
theorem within_of_lookup {c : Config} {a : Word} {k : RegionKind} {base size : Nat}
    (hwithin : c.regionsWithin k base size = true) (h : lookupRegion c.regions a = some k) :
    base ≤ a.toNat ∧ a.toNat < base + size := by
  obtain ⟨r, hr, hk, hlo, hhi⟩ := exists_region_of_lookup h
  have hbounds := List.all_eq_true.1 hwithin r hr
  simp only [hk, bne_self_eq_false, Bool.false_or, Bool.and_eq_true, decide_eq_true_eq] at hbounds
  omega

/-- The offset of a video address is in the buffer (R76). -/
theorem videoOffset_lt {s : State} (h : Platform s.cfg) {a : Word} (ha : s.regionAt a = some .video) :
    s.videoOffset a < s.cfg.videoSize := by
  have := within_of_lookup h.video ha
  unfold State.videoOffset
  omega

/-! ## Bus writes and moves keep the invariant -/

theorem memoryBelow_write {m : Memory} {n a : Nat} (v : Byte) (h : memoryBelow m n) (ha : a < n) :
    memoryBelow (m.write a v) n := by
  intro c hc
  rcases mem_write m a v c hc with rfl | hc
  · exact ha
  · exact h c hc

/-- The invariant speaks of these parts of the state only. -/
theorem inv_of_parts {s t : State} (inv : Inv s) (cfg : t.cfg = s.cfg) (mem : t.mem = s.mem)
    (video : t.videoBuf = s.videoBuf) (snapshot : t.videoSnapshot = s.videoSnapshot)
    (queue : t.uartQueue.length ≤ s.uartQueue.length) (bank : t.bankSel = s.bankSel)
    (frame : t.frameCycles = s.frameCycles) : Inv t where
  platform := cfg ▸ inv.platform
  memCanonical := mem ▸ inv.memCanonical
  videoCanonical := video ▸ inv.videoCanonical
  snapshotCanonical := snapshot ▸ inv.snapshotCanonical
  videoBounded := by rw [cfg, video]; exact inv.videoBounded
  snapshotBounded := by rw [cfg, snapshot]; exact inv.snapshotBounded
  queueBounded := by rw [cfg]; exact Nat.le_trans queue inv.queueBounded
  bankExists := by rw [cfg, bank]; exact inv.bankExists
  frameOpen := by rw [cfg, frame]; exact inv.frameOpen

theorem bankSelect_lt {s : State} (h : Platform s.cfg) (v : Byte) {b : BankConfig} (hb : s.cfg.bank = some b) :
    s.bankSelect v < b.count := by
  rw [State.bankSelect, hb]
  exact Nat.mod_lt _ (bankFormed_of_wired h.bank hb).someBank

theorem write8_inv {s : State} (inv : Inv s) (ea : Word) (v : Byte) : Inv (s.write8 ea v) := by
  have platform := platform_of_wellFormed inv.platform
  rcases write8_cases s ea v with ⟨_, h⟩ | ⟨_, _, h⟩ | ⟨hvideo, h⟩ | ⟨_, h⟩ | ⟨_, _, _, _, h⟩ <;> rw [h]
  · exact { inv with memCanonical := wf_write _ _ v ea.isLt inv.memCanonical }
  · exact { inv with }
  · have offset := videoOffset_lt platform hvideo
    have small : s.videoOffset ea < 0x10000 := Nat.lt_of_le_of_lt (Nat.sub_le _ _) ea.isLt
    exact { inv with
      videoCanonical := wf_write _ _ v small inv.videoCanonical
      videoBounded := memoryBelow_write v inv.videoBounded offset }
  · exact { inv with bankExists := fun b hb => bankSelect_lt platform v hb }
  · exact inv

theorem moves_inv {s t : State} (h : Moves s t) (inv : Inv s) : Inv t := by
  induction h with
  | refl => exact inv
  | write _ ea v ih => exact write8_inv ih ea v
  | cpu _ hu hq ih =>
    exact inv_of_parts ih (congrArg State.cfg hu :) (congrArg State.mem hu :) (congrArg State.videoBuf hu :)
      (congrArg State.videoSnapshot hu :) hq.length_le (congrArg State.bankSel hu :) (congrArg State.frameCycles hu :)

/-! ## Steps -/

/-- The next state, where `r` gives one, has the invariant. -/
def NextInv (r : Result) : Prop := ∀ t, r = .next t → Inv t

theorem NextInv.next {t : State} (h : Inv t) : NextInv (.next t) := by
  rintro _ ⟨⟩
  exact h

theorem exec_inv {s : State} (inv : Inv s) (i : Instr) : NextInv (exec i s) :=
  fun _ h => moves_inv (exec_moves h) inv

theorem enterInterrupt_inv {s : State} (inv : Inv s) (k : VectorKind) : Inv (s.enterInterrupt k) :=
  moves_inv ((enterVector_moves s k false).set rfl rfl) inv

theorem boundaryStep_inv {s : State} (inv : Inv s) : NextInv (boundaryStep s) := by
  unfold boundaryStep
  split
  · have cleared : Inv { s with nmiLatch := false } := inv_of_parts inv rfl rfl rfl rfl (Nat.le_refl _) rfl rfl
    exact .next (enterInterrupt_inv cleared .nmi)
  · split
    · exact .next (enterInterrupt_inv inv .irq)
    · exact exec_inv (moves_inv (.of_onlyRead (LoadStore.operandFetch_onlyRead s)) inv) _

theorem cpuStep_inv {s : State} (inv : Inv s) : NextInv (cpuStep s) := by
  have idle : Inv s.idleTick := inv_of_parts inv rfl rfl rfl rfl (Nat.le_refl _) rfl rfl
  unfold cpuStep
  split
  · exact .next idle
  · split
    · exact boundaryStep_inv (inv_of_parts inv rfl rfl rfl rfl (Nat.le_refl _) rfl rfl)
    · exact .next idle
  · exact boundaryStep_inv inv

/-- The frame tick closes every frame that is full, and takes the snapshot from the buffer. -/
theorem frameTick_inv {s : State} (inv : Inv s) (n : Nat) : Inv (s.frameTick n) := by
  have positive := (platform_of_wellFormed inv.platform).frame
  rw [frameTickCountsFrames s n positive]
  split
  · exact { inv with
      snapshotCanonical := inv.videoCanonical, snapshotBounded := inv.videoBounded
      frameOpen := Nat.mod_lt _ positive }
  · exact { inv with frameOpen := Nat.mod_lt _ positive }

/-- Settles O11: a step is a CPU step, whose moves keep the invariant, and a frame tick. -/
theorem stepKeepsInvariant : Obligations.StepKeepsInvariant := by
  intro s t inv h
  obtain ⟨u, hu, rfl⟩ := step_eq_next h
  exact frameTick_inv (cpuStep_inv inv u hu) u.cycles

/-! ## Host actions and reset -/

theorem resetSequence_inv {s : State} (inv : Inv s) : Inv s.resetSequence := by
  rw [resetSequence_eq]
  exact inv_of_parts inv rfl rfl rfl rfl (Nat.le_refl _) rfl rfl

theorem hostAction_inv {s : State} (inv : Inv s) (act : HostAction) : Inv (s.hostAction act) := by
  cases act with
  | keyEvent | setIrq | setNmi => exact inv_of_parts inv rfl rfl rfl rfl (Nat.le_refl _) rfl rfl
  | reset => exact resetSequence_inv inv

/-- Settles O12, by induction on the actions. -/
theorem hostActionsKeepInvariant : Obligations.HostActionsKeepInvariant := by
  intro s acts inv
  induction acts generalizing s with
  | nil => exact inv
  | cons act acts ih => exact ih (s.hostAction act) (hostAction_inv inv act)

/-- Settles O10: TEST_MAP is well formed, and every memory, the queue and the counters are empty. -/
theorem resetStateHasInvariant : Obligations.ResetStateHasInvariant where
  platform := by decide
  memCanonical := rfl
  videoCanonical := rfl
  snapshotCanonical := rfl
  videoBounded := nofun
  snapshotBounded := nofun
  queueBounded := Nat.zero_le _
  bankExists := nofun
  frameOpen := by decide

end Sys2Proof.Proofs.Invariant
end

section
/-! Startup (R410 to R416): which inputs it refuses, and the state it leaves. Beside it the region table (R57): its
walk order, and what it says of the images that startup puts in. -/

namespace Sys2Proof.Proofs.Startup

open Sys2Proof.Machine Sys2Proof.Laws Sys2Proof.Proofs.Invariant Sys2Proof.Proofs.Memory Sys2Proof.Proofs.Reset

/-! ## Regions that share no address -/

theorem regionHas_iff {a : Word} {r : Region} : regionHas a r = true ↔ regionCovers r a.toNat := by
  simp [regionHas, regionCovers]

theorem not_shared_of_disjoint {p q : Region} {n : Nat} (h : p.disjoint q = true) (hp : regionCovers p n) :
    ¬ regionCovers q n := by
  simp only [Region.disjoint, Bool.or_eq_true, decide_eq_true_eq] at h
  unfold regionCovers at *
  omega

/-- Two regions that are not apart share the higher of their first addresses. -/
theorem disjoint_of_not_shared {p q : Region} (hp : p.lo ≤ p.hi) (hq : q.lo ≤ q.hi)
    (h : ∀ n, regionCovers p n → ¬ regionCovers q n) : p.disjoint q = true := by
  have := h (max p.lo q.lo)
  simp only [Region.disjoint, Bool.or_eq_true, decide_eq_true_eq]
  unfold regionCovers at this
  omega

theorem disjoint_symm {p q : Region} (h : p.disjoint q = true) : q.disjoint p = true := by
  simpa only [Region.disjoint, Bool.or_comm] using h

theorem regionsDisjoint_iff (rs : List Region) :
    regionsDisjoint rs = true ↔ rs.Pairwise fun p q => p.disjoint q = true := by
  induction rs with
  | nil => simp [regionsDisjoint]
  | cons r rs ih => simp [regionsDisjoint, ih]

/-- Settles O60: a region of the table that holds the address is the one looked up in either order (R57). -/
theorem regionOrderIsIrrelevant : Obligations.RegionOrderIsIrrelevant := by
  intro rs rs' a perm apart
  have apart' : regionsDisjoint rs' = true :=
    (regionsDisjoint_iff rs').2 ((perm.pairwise_iff disjoint_symm).1 ((regionsDisjoint_iff rs).1 apart))
  cases hfind : rs.find? (regionHas a) with
  | some r =>
    have hr := List.mem_of_find?_eq_some hfind
    have ha := List.find?_some hfind
    rw [lookupRegion_eq_of_mem apart hr ha, lookupRegion_eq_of_mem apart' (perm.mem_iff.1 hr) ha]
  | none =>
    have hfind' : rs'.find? (regionHas a) = none := by
      rw [List.find?_eq_none] at hfind ⊢
      exact fun r hr => hfind r (perm.mem_iff.2 hr)
    rw [lookupRegion, lookupRegion, hfind, hfind']

theorem regionsFit_iff (rs : List Region) : regionsFit rs = true ↔
    (∀ r ∈ rs, r.lo ≤ r.hi ∧ r.hi ≤ 0xFFFF) ∧ rs.Pairwise fun p q => p.disjoint q = true := by
  simp [regionsFit, regionsDisjoint_iff, Region.wellFormed]

/-! ## Images and their regions -/

/-- The ROM region of an image that is not empty (R413). -/
theorem mem_imageRegion {i : Image} {r : Region} : r ∈ i.region ↔
    i.bytes ≠ [] ∧ r = ⟨i.load, i.load + i.bytes.length - 1, .rom⟩ := by
  unfold Image.region
  split <;> simp [*]

/-- The region of an image covers the bytes of the image, and no other. -/
theorem covers_iff_region {i : Image} {n : Nat} : i.covers n ↔ ∃ r ∈ i.region, regionCovers r n := by
  simp only [mem_imageRegion, Image.covers, regionCovers]
  constructor
  · rintro ⟨hlo, hhi⟩
    have nonempty : i.bytes ≠ [] := fun h => by simp [h] at hhi; omega
    exact ⟨_, ⟨nonempty, rfl⟩, hlo, by simp only; omega⟩
  · rintro ⟨_, ⟨nonempty, rfl⟩, hlo, hhi⟩
    have := List.length_pos_iff.2 nonempty
    exact ⟨hlo, by simp only at hhi; omega⟩

theorem mem_imageRegions {images : List Image} {i : Image} {r : Region} (hi : i ∈ images) (hr : r ∈ i.region) :
    r ∈ images.flatMap Image.region := List.mem_flatMap_of_mem hi hr

/-- What regions that fit say of the images among them (R57, R416). -/
structure Fits (c : Config) (images : List Image) : Prop where
  formed : ∀ r ∈ runRegions c images, r.lo ≤ r.hi ∧ r.hi ≤ 0xFFFF
  tableApart : (c.regions ++ bankRegions c).Pairwise fun p q => p.disjoint q = true
  imagesApart : (images.flatMap Image.region).Pairwise fun p q => p.disjoint q = true
  imagesOffTable : ∀ i ∈ images, ∀ r ∈ c.regions ++ bankRegions c, ∀ q ∈ i.region, r.disjoint q = true

theorem regionsFit_runRegions_iff {c : Config} {images : List Image} :
    regionsFit (runRegions c images) = true ↔ Fits c images := by
  rw [regionsFit_iff, runRegions, List.pairwise_append]
  constructor
  · rintro ⟨formed, table, apart, cross⟩
    exact ⟨formed, table, apart, fun i hi r hr q hq => cross r hr q (mem_imageRegions hi hq)⟩
  · rintro ⟨formed, table, apart, cross⟩
    refine ⟨formed, table, apart, fun r hr q hq => ?_⟩
    obtain ⟨i, hi, hq⟩ := List.mem_flatMap.1 hq
    exact cross i hi r hr q hq

theorem mem_runRegions_of_image {c : Config} {images : List Image} {i : Image} {r : Region} (hi : i ∈ images)
    (hr : r ∈ i.region) : r ∈ runRegions c images := List.mem_append_right _ (mem_imageRegions hi hr)

/-- An image of a table that fits ends in the address space, unless it is empty. -/
theorem Fits.image_end {c : Config} {images : List Image} (fits : Fits c images) {i : Image} (hi : i ∈ images)
    (hne : i.bytes ≠ []) : i.load + i.bytes.length ≤ 0x10000 := by
  have := (fits.formed _ (mem_runRegions_of_image hi (mem_imageRegion.2 ⟨hne, rfl⟩))).2
  simp only at this
  omega

/-- The regions of the bank register are never empty (log 24). -/
theorem bankRegions_formed {c : Config} {r : Region} (hr : r ∈ bankRegions c) : r.lo ≤ r.hi := by
  unfold bankRegions at hr
  split at hr
  · cases hr
  · rcases List.mem_cons.1 hr with rfl | hr
    · exact Nat.le_refl _
    · split at hr
      · cases hr
      · obtain rfl := List.mem_singleton.1 hr
        simp only
        omega

/-! ## A layout is bad exactly where the regions do not fit -/

/-- The images that startup loads: one or two, each at an address (R411 to R413). -/
structure ImageList (images : List Image) : Prop where
  starts : ∀ i ∈ images, i.load ≤ 0xFFFF
  count : (∃ i, images = [i]) ∨ (∃ i j, images = [i, j])

theorem not_badLayout_of_fits {c : Config} {images : List Image} (loaded : ImageList images) (fits : Fits c images) :
    ¬ BadLayout c images := by
  rintro (⟨i, hi, hend⟩ | ⟨r, hr, hhi⟩ | shared | ⟨i, hi, r, hr, n, hn, hrn⟩ | ⟨i, j, n, rfl, hin, hjn⟩)
  · have start := loaded.starts i hi
    have nonempty : i.bytes ≠ [] := fun h => by simp [h] at hend; omega
    exact absurd (fits.image_end hi nonempty) (by omega)
  · exact absurd (fits.formed r (List.mem_append_left _ hr)).2 (by omega)
  · rw [(regionsDisjoint_iff _).2 fits.tableApart] at shared
    cases shared
  · obtain ⟨q, hq, hqn⟩ := covers_iff_region.1 hn
    exact not_shared_of_disjoint (fits.imagesOffTable i hi r hr q hq) hrn hqn
  · obtain ⟨p, hp, hpn⟩ := covers_iff_region.1 hin
    obtain ⟨q, hq, hqn⟩ := covers_iff_region.1 hjn
    have apart := fits.imagesApart
    simp only [List.flatMap_cons, List.flatMap_nil, List.append_nil, List.pairwise_append] at apart
    exact not_shared_of_disjoint (apart.2.2 p hp q hq) hpn hqn

theorem imageRegion_formed {i : Image} {r : Region} (hr : r ∈ i.region) : r.lo ≤ r.hi := by
  obtain ⟨hne, rfl⟩ := mem_imageRegion.1 hr
  have := List.length_pos_iff.2 hne
  simp only
  omega

/-- The one region of an image is apart from any other of the same image: there is none. -/
theorem imageRegion_pairwise (i : Image) : i.region.Pairwise fun p q => p.disjoint q = true := by
  unfold Image.region
  split <;> simp

theorem fits_of_not_badLayout {c : Config} {images : List Image} (loaded : ImageList images)
    (ordered : ∀ r ∈ c.regions, r.lo ≤ r.hi) (h : ¬ BadLayout c images) : Fits c images := by
  simp only [BadLayout, not_or] at h
  obtain ⟨ends, bounds, table, cross, images_cross⟩ := h
  have tableFormed : ∀ r ∈ c.regions ++ bankRegions c, r.lo ≤ r.hi := fun r hr =>
    (List.mem_append.1 hr).elim (ordered r) bankRegions_formed
  constructor
  case formed =>
    intro r hr
    rcases List.mem_append.1 hr with hr | hr
    · exact ⟨tableFormed r hr, Nat.not_lt.1 fun hhi => bounds ⟨r, hr, hhi⟩⟩
    · obtain ⟨i, hi, hr⟩ := List.mem_flatMap.1 hr
      have fit : i.load + i.bytes.length ≤ 0x10000 := Nat.not_lt.1 fun hend => ends ⟨i, hi, hend⟩
      refine ⟨imageRegion_formed hr, ?_⟩
      obtain ⟨_, rfl⟩ := mem_imageRegion.1 hr
      simp only
      omega
  case tableApart => exact (regionsDisjoint_iff _).1 (Bool.not_eq_false _ ▸ table)
  case imagesApart =>
    rcases loaded.count with ⟨i, rfl⟩ | ⟨i, j, rfl⟩
    · simpa using imageRegion_pairwise i
    · simp only [List.flatMap_cons, List.flatMap_nil, List.append_nil, List.pairwise_append]
      refine ⟨imageRegion_pairwise i, imageRegion_pairwise j, fun p hp q hq => ?_⟩
      exact disjoint_of_not_shared (imageRegion_formed hp) (imageRegion_formed hq) fun n hpn hqn =>
        images_cross ⟨i, j, n, rfl, covers_iff_region.2 ⟨p, hp, hpn⟩, covers_iff_region.2 ⟨q, hq, hqn⟩⟩
  case imagesOffTable =>
    exact fun i hi r hr q hq => disjoint_of_not_shared (tableFormed r hr) (imageRegion_formed hq) fun n hrn hqn =>
      cross ⟨i, hi, r, hr, n, covers_iff_region.2 ⟨q, hq, hqn⟩, hrn⟩

/-! ## The images in memory -/

/-- Loading leaves every address outside the image alone. -/
theorem read_load_other {m : Memory} {a n : Nat} {bs : List Byte} (h : ¬ (a ≤ n ∧ n < a + bs.length)) :
    (m.load a bs).read n = m.read n := by
  induction bs generalizing m a with
  | nil => rfl
  | cons b bs ih =>
    simp only [List.length_cons] at h
    rw [Memory.load, ih (by omega), read_write_other _ _ _ _ (by omega)]

/-- Loading puts every byte of the image where it belongs. -/
theorem read_load_same {m : Memory} {a : Nat} {bs : List Byte} (hm : m.wf = true) (hend : a + bs.length ≤ 0x10000)
    {k : Nat} (hk : k < bs.length) : (m.load a bs).read (a + k) = bs.getD k 0 := by
  induction bs generalizing m a k with
  | nil => cases hk
  | cons b bs ih =>
    simp only [List.length_cons] at hend hk
    rw [Memory.load]
    cases k with
    | zero => rw [read_load_other (by omega)]; exact read_write_same m a b hm
    | succ k =>
      have := ih (wf_write m a b (by omega) hm) (by omega : a + 1 + bs.length ≤ 0x10000) (k := k) (by omega)
      rwa [Nat.add_right_comm] at this

theorem load_image_wf {m : Memory} {i : Image} (hm : m.wf = true)
    (hend : i.bytes ≠ [] → i.load + i.bytes.length ≤ 0x10000) : (m.load i.load i.bytes).wf = true := by
  by_cases hne : i.bytes = []
  · rw [hne]; exact hm
  · exact wf_load m i.load i.bytes (hend hne) hm

theorem loadImages_wf {m : Memory} {images : List Image} (hm : m.wf = true)
    (hend : ∀ i ∈ images, i.bytes ≠ [] → i.load + i.bytes.length ≤ 0x10000) : (loadImages m images).wf = true := by
  induction images generalizing m with
  | nil => exact hm
  | cons i images ih =>
    have first := load_image_wf hm (hend i List.mem_cons_self)
    exact ih first fun j hj => hend j (List.mem_cons_of_mem i hj)

theorem read_loadImages_other {m : Memory} {images : List Image} {n : Nat} (h : ∀ i ∈ images, ¬ i.covers n) :
    (loadImages m images).read n = m.read n := by
  induction images generalizing m with
  | nil => rfl
  | cons i images ih =>
    have rest := ih (m := m.load i.load i.bytes) fun j hj => h j (List.mem_cons_of_mem i hj)
    exact rest.trans (read_load_other (h i List.mem_cons_self))

/-- Images that share no address all stand in memory as they are, in whatever order they were loaded. -/
theorem read_loadImages_same {m : Memory} {images : List Image} (hm : m.wf = true)
    (hend : ∀ i ∈ images, i.bytes ≠ [] → i.load + i.bytes.length ≤ 0x10000)
    (apart : (images.flatMap Image.region).Pairwise fun p q => p.disjoint q = true)
    {i : Image} (hi : i ∈ images) {k : Nat} (hk : k < i.bytes.length) :
    (loadImages m images).read (i.load + k) = i.bytes.getD k 0 := by
  induction images generalizing m with
  | nil => cases hi
  | cons j images ih =>
    rw [List.flatMap_cons, List.pairwise_append] at apart
    obtain ⟨_, restApart, cross⟩ := apart
    have restEnd := fun p hp => hend p (List.mem_cons_of_mem j hp)
    rcases List.mem_cons.1 hi with rfl | hi
    · have covered : i.covers (i.load + k) := ⟨Nat.le_add_right _ _, Nat.add_lt_add_left hk _⟩
      have untouched : ∀ p ∈ images, ¬ p.covers (i.load + k) := fun p hp hpn => by
        obtain ⟨q, hq, hqn⟩ := covers_iff_region.1 covered
        obtain ⟨r, hr, hrn⟩ := covers_iff_region.1 hpn
        exact not_shared_of_disjoint (cross q hq r (mem_imageRegions hp hr)) hqn hrn
      have nonempty : i.bytes ≠ [] := List.ne_nil_of_length_pos (Nat.zero_lt_of_lt hk)
      exact (read_loadImages_other untouched).trans (read_load_same hm (hend i List.mem_cons_self nonempty) hk)
    · exact ih (load_image_wf hm (hend j List.mem_cons_self)) restEnd restApart hi

/-! ## What startup does -/

theorem effectiveOverride_eq_or (external declared : Option Word) :
    effectiveOverride external declared = external.or declared := by
  cases external <;> rfl

/-- The state that startup leaves where the regions fit (R411 steps 5 to 8). -/
def startedState (inp : StartupInput) (images : List Image) (h : Option CartHeader) (source : List Byte) : State :=
  (powerOnState (runConfig inp.cfg images h) inp.powerOn (loadImages inp.powerOn.ram images)
    (uartBytes inp.cfg source)).resetSequence

theorem finishStartup_of_fits {inp : StartupInput} {images : List Image} (fits : Fits inp.cfg images)
    (h : Option CartHeader) (source : List Byte) :
    finishStartup inp.cfg inp.powerOn images h source = .ok (startedState inp images h source) :=
  if_pos (regionsFit_runRegions_iff.2 fits)

theorem finishStartup_of_not_fits {inp : StartupInput} {images : List Image} (fits : ¬ Fits inp.cfg images)
    (h : Option CartHeader) (source : List Byte) :
    finishStartup inp.cfg inp.powerOn images h source = .error .configError :=
  if_neg fun fit => fits (regionsFit_runRegions_iff.1 fit)

theorem fits_of_finishStartup {inp : StartupInput} {images : List Image} {h : Option CartHeader} {source : List Byte}
    {s : State} (ok : finishStartup inp.cfg inp.powerOn images h source = .ok s) :
    Fits inp.cfg images ∧ s = startedState inp images h source := by
  by_cases fits : Fits inp.cfg images
  · rw [finishStartup_of_fits fits, Except.ok.injEq] at ok
    exact ⟨fits, ok.symm⟩
  · rw [finishStartup_of_not_fits fits] at ok
    cases ok

section
variable {parse : List Byte → CartResult} {inp : StartupInput}

/-- The bytes of a headered cartridge that CART_PARSE takes are enough (R412, log 11). -/
theorem loadCartridge_headered {c : Config} {blob : List Byte} {l : CartLoad}
    (h : loadCartridge parse c true blob = .ok l) : ∃ g, parse blob = .ok g ∧ g.length ≤ g.payload.length ∧
      l = ⟨[⟨g.load.toNat, g.payload.take g.length⟩], some g⟩ := by
  simp only [loadCartridge, if_true] at h
  split at h
  · cases h
  · rename_i g hg
    split at h
    · cases h
    · cases h
      exact ⟨g, hg, by omega, rfl⟩

theorem startup_of_loadsImages {images : List Image} {h : Option CartHeader} {source : List Byte}
    (loads : LoadsImages parse inp images h) (hsource : inp.uartSource = some source) :
    startup parse inp = finishStartup inp.cfg inp.powerOn images h source := by
  obtain ⟨e, he, ⟨hcart, rfl, rfl⟩ | ⟨blob, hcart, rfl, rfl⟩ | ⟨blob, g, hcart, hparse, henough, rfl, rfl⟩⟩ := loads
  · simp only [startup, he, hsource, hcart]
  · simp only [startup, he, hsource, hcart, loadCartridge, Bool.false_eq_true, if_false]
  · have payload : ¬ g.payload.length < g.length := by omega
    simp only [startup, he, hsource, hcart, loadCartridge, if_true, hparse, payload, if_false]

/-- Startup that succeeds has read its sources and loaded their images. -/
theorem loadsImages_of_startup {s : State} (ok : startup parse inp = .ok s) :
    ∃ images h source, LoadsImages parse inp images h ∧ inp.uartSource = some source ∧
      finishStartup inp.cfg inp.powerOn images h source = .ok s := by
  unfold startup at ok
  split at ok
  case h_2 => cases ok
  case h_1 e source he hsource =>
    simp only at ok
    split at ok
    case h_1 hcart => exact ⟨_, _, source, ⟨e, he, .inl ⟨hcart, rfl, rfl⟩⟩, hsource, ok⟩
    case h_2 => cases ok
    case h_3 headered blob hcart =>
      split at ok
      case h_1 => cases ok
      case h_2 l hl =>
        cases headered with
        | false =>
          cases hl
          exact ⟨_, _, source, ⟨e, he, .inr (.inl ⟨blob, hcart, rfl, rfl⟩)⟩, hsource, ok⟩
        | true =>
          obtain ⟨g, hparse, henough, rfl⟩ := loadCartridge_headered hl
          exact ⟨_, _, source, ⟨e, he, .inr (.inr ⟨blob, g, hcart, hparse, henough, rfl, rfl⟩)⟩, hsource, ok⟩

theorem imageList_of_loadsImages {images : List Image} {h : Option CartHeader}
    (loads : LoadsImages parse inp images h) : ImageList images := by
  have word (w : Word) : w.toNat ≤ 0xFFFF := Nat.le_of_lt_succ w.isLt
  obtain ⟨e, _, ⟨_, rfl, _⟩ | ⟨blob, _, rfl, _⟩ | ⟨blob, g, _, _, _, rfl, _⟩⟩ := loads
  · exact ⟨by simp [word], .inl ⟨_, rfl⟩⟩
  · exact ⟨by simp [word], .inr ⟨_, _, rfl⟩⟩
  · exact ⟨by simp [word], .inr ⟨_, _, rfl⟩⟩

end

/-! ## The state that startup leaves -/

section
variable {inp : StartupInput} {images : List Image} (h : Option CartHeader) (source : List Byte)

/-- Startup ends in the reset sequence, which writes SP, I, run, the latch and PC. -/
theorem startedState_eq : startedState inp images h source =
    { beforeVector (powerOnState (runConfig inp.cfg images h) inp.powerOn (loadImages inp.powerOn.ram images)
        (uartBytes inp.cfg source)) with pc := (startedState inp images h source).pc } :=
  resetSequence_eq _

theorem startedState_cfg : (startedState inp images h source).cfg = runConfig inp.cfg images h := by
  rw [startedState_eq]; rfl

theorem startedState_mem : (startedState inp images h source).mem = loadImages inp.powerOn.ram images := by
  rw [startedState_eq]; rfl

/-- A Bus read after the reset sequence gives what it gave before. -/
theorem read16_startedState (a : Word) : ((startedState inp images h source).read16 a).1 =
    ((powerOnState (runConfig inp.cfg images h) inp.powerOn (loadImages inp.powerOn.ram images)
      (uartBytes inp.cfg source)).read16 a).1 := by
  rw [startedState_eq]; rfl

theorem startedState_regionAt (a : Word) :
    (startedState inp images h source).regionAt a = lookupRegion (runRegions inp.cfg images) a := by
  rw [State.regionAt, startedState_cfg]; rfl

/-- Outside the images the table is that of the platform. -/
theorem lookupRegion_runRegions {c : Config} {a : Word} (ha : ∀ i ∈ images, ¬ i.covers a.toNat) :
    lookupRegion (runRegions c images) a = lookupRegion (c.regions ++ bankRegions c) a := by
  have miss : (images.flatMap Image.region).find? (regionHas a) = none := by
    rw [List.find?_eq_none]
    intro r hr hra
    obtain ⟨i, hi, hr⟩ := List.mem_flatMap.1 hr
    exact ha i hi (covers_iff_region.2 ⟨r, hr, regionHas_iff.1 hra⟩)
  rw [lookupRegion, lookupRegion, runRegions, List.find?_append, miss, Option.or_none]

theorem Fits.apart {c : Config} (fits : Fits c images) : regionsDisjoint (runRegions c images) = true := by
  have := regionsFit_runRegions_iff.2 fits
  simp only [regionsFit, Bool.and_eq_true] at this
  exact this.2

/-- Every byte of an image lies in ROM and reads as the image has it (R412, R413). -/
theorem startedState_romByte (fits : Fits inp.cfg images) (hram : inp.powerOn.ram.wf = true) {i : Image}
    (hi : i ∈ images) {k : Nat} (hk : k < i.bytes.length) :
    (startedState inp images h source).regionAt (BitVec.ofNat 16 (i.load + k)) = some .rom ∧
    (startedState inp images h source).busValue (BitVec.ofNat 16 (i.load + k)) = i.bytes.getD k 0 := by
  have nonempty : i.bytes ≠ [] := List.ne_nil_of_length_pos (Nat.zero_lt_of_lt hk)
  have hend := fits.image_end hi nonempty
  have address : (BitVec.ofNat 16 (i.load + k)).toNat = i.load + k :=
    (BitVec.toNat_ofNat _ _).trans (Nat.mod_eq_of_lt (by omega))
  have rom : (startedState inp images h source).regionAt (BitVec.ofNat 16 (i.load + k)) = some .rom := by
    rw [startedState_regionAt]
    obtain ⟨r, hr, hcovers⟩ := covers_iff_region.1
      (show i.covers (i.load + k) from ⟨Nat.le_add_right _ _, Nat.add_lt_add_left hk _⟩)
    rw [lookupRegion_eq_of_mem fits.apart (mem_runRegions_of_image hi hr) (regionHas_iff.2 (by rwa [address]))]
    obtain ⟨_, rfl⟩ := mem_imageRegion.1 hr
    rfl
  refine ⟨rom, ?_⟩
  rw [busValue_of_rom rom, startedState_mem, address]
  exact read_loadImages_same hram (fun _ hj => fits.image_end hj) fits.imagesApart hi hk

theorem startedFrom (fits : Fits inp.cfg images) :
    StartedFrom inp images h source (startedState inp images h source) where
  registers := by rw [startedState_eq]; exact ⟨rfl, rfl, rfl, rfl⟩
  flags := by rw [startedState_eq]; exact ⟨rfl, rfl, rfl, rfl, rfl, rfl⟩
  override w hw := by
    rw [startedState_cfg] at hw
    exact resetSequence_pc_of_override hw
  vector hnone := by
    rw [startedState_cfg] at hnone
    rw [read16_startedState]
    exact resetSequence_pc_of_vector hnone
  inputs := by rw [startedState_eq]; exact ⟨rfl, rfl, rfl, rfl⟩
  romBytes hram i hi k hk := startedState_romByte h source fits hram hi hk
  otherBytes n hn := by rw [startedState_mem]; exact read_loadImages_other hn
  mapped a ha := by rw [startedState_regionAt]; exact lookupRegion_runRegions ha
  regionsFormed := by
    rw [startedState_cfg, List.all_eq_true]
    exact fun r hr => by simpa [Region.wellFormed] using fits.formed r hr
  regionsApart := by rw [startedState_cfg]; exact fits.apart
  overrides := by
    rw [startedState_cfg]
    exact ⟨effectiveOverride_eq_or _ _, effectiveOverride_eq_or _ _, effectiveOverride_eq_or _ _⟩
  parameters := by rw [startedState_cfg]; rfl
  queue := rfl
  overrun := by rw [startedState_eq]; rfl
  keyboard := by rw [startedState_eq]; exact ⟨rfl, rfl⟩
  video := by rw [startedState_eq]; exact ⟨rfl, rfl, rfl, rfl⟩
  bank b hb := by
    rw [startedState_eq]
    simp only [beforeVector, powerOnState, runConfig, hb]

end

/-- Settles O59: each error by its check, and what is left by `startedFrom`, for the regions fit. -/
theorem startupErrors : Obligations.StartupErrors := by
  intro parse inp
  refine ⟨?_, ?_, ?_, ?_⟩
  · rintro (he | hu | ⟨headered, hcart⟩)
    · simp [startup, he]
    · simp [startup, hu]
    · unfold startup
      split
      · simp only [hcart]
      · rfl
  · rintro e u blob he hu hcart (hbad | ⟨g, hg, hshort⟩)
    · simp [startup, he, hu, hcart, loadCartridge, hbad]
    · simp [startup, he, hu, hcart, loadCartridge, hg, hshort]
  · intro images h u loads hu
    have loaded := imageList_of_loadsImages loads
    rw [startup_of_loadsImages loads hu]
    constructor
    · exact fun bad => finishStartup_of_not_fits (fun fits => not_badLayout_of_fits loaded fits bad) h u
    · intro good ordered
      have fits := fits_of_not_badLayout loaded ordered good
      exact ⟨_, finishStartup_of_fits fits h u, startedFrom h u fits⟩
  · intro s ok
    obtain ⟨images, h, u, loads, hu, finished⟩ := loadsImages_of_startup ok
    obtain ⟨fits, rfl⟩ := fits_of_finishStartup finished
    exact ⟨images, h, u, loads, hu, startedFrom h u fits⟩

/-- Settles O13: the power-on state has the invariant, for the draws and the images are canonical and the queue is
cut to its capacity, and the reset sequence keeps it. -/
theorem startupGivesInvariant : Obligations.StartupGivesInvariant := by
  intro parse inp s ok platform hram hvideo bounded
  obtain ⟨images, h, u, _, _, finished⟩ := loadsImages_of_startup ok
  obtain ⟨fits, rfl⟩ := fits_of_finishStartup finished
  rw [startedState_cfg] at platform
  have formed := platform_of_wellFormed platform
  exact resetSequence_inv {
    platform
    memCanonical := loadImages_wf hram fun _ hi => fits.image_end hi
    videoCanonical := hvideo
    snapshotCanonical := hvideo
    videoBounded := bounded
    snapshotBounded := bounded
    queueBounded := List.length_take_le _ _
    bankExists := fun b hb => by
      have wired : inp.cfg.bank = some b := hb
      have initial := (bankFormed_of_wired formed.bank hb).initial
      simpa [powerOnState, runConfig, wired] using initial
    frameOpen := formed.frame }

/-- Settles O14: TEST_MAP fits with the empty image, and startup on it evaluates to `State.reset` (logs 1 to 4). -/
theorem resetIsStartupOnTestMap : Obligations.ResetIsStartupOnTestMap := fun _ => rfl

/-! ## Newlines in the UART source -/

theorem normalizeNewlines_crlf (s : List Byte) :
    normalizeNewlines (0x0D#8 :: 0x0A#8 :: s) = 0x0A#8 :: normalizeNewlines s := by
  simp [normalizeNewlines]

theorem normalizeNewlines_cr {s : List Byte} (h : s.head? ≠ some 0x0A#8) :
    normalizeNewlines (0x0D#8 :: s) = 0x0A#8 :: normalizeNewlines s := by
  cases s with
  | nil => rfl
  | cons c s =>
    have notLf : c ≠ 0x0A#8 := fun hc => h (congrArg some hc)
    simp [normalizeNewlines, notLf]

theorem normalizeNewlines_other (s : List Byte) {b : Byte} (h : b ≠ 0x0D#8) :
    normalizeNewlines (b :: s) = b :: normalizeNewlines s := by
  cases s <;> simp [normalizeNewlines, h]

/-- CR LF gives LF, a lone CR gives LF, and any other byte passes: no CR comes out, and no byte is added. -/
theorem normalizeNewlines_shrinks (s : List Byte) :
    0x0D#8 ∉ normalizeNewlines s ∧ (normalizeNewlines s).length ≤ s.length := by
  induction s using normalizeNewlines.induct with
  | case1 => simp [normalizeNewlines]
  | case2 b => by_cases hb : b = 0x0D#8 <;> simp [normalizeNewlines, hb, Ne.symm]
  | case3 b c rest crlf ih =>
    obtain ⟨rfl, rfl⟩ := crlf
    rw [normalizeNewlines_crlf]
    exact ⟨by simpa using ih.1, by simpa using Nat.le_succ_of_le ih.2⟩
  | case4 c rest notCrlf ih =>
    rw [normalizeNewlines_cr (by simpa using notCrlf)]
    exact ⟨by simpa using ih.1, by simpa using ih.2⟩
  | case5 b c rest _ hb ih =>
    rw [normalizeNewlines_other _ hb]
    exact ⟨by simpa [Ne.symm hb] using ih.1, by simpa using ih.2⟩

theorem normalizeNewlines_of_no_cr {s : List Byte} (h : 0x0D#8 ∉ s) : normalizeNewlines s = s := by
  induction s with
  | nil => rfl
  | cons b s ih =>
    have hb : b ≠ 0x0D#8 := fun hb => h (hb ▸ List.mem_cons_self)
    rw [normalizeNewlines_other s hb, ih fun hs => h (List.mem_cons_of_mem b hs)]

/-- Settles O58, by an equation for each branch of R68. -/
theorem newlinesAreNormalized : Obligations.NewlinesAreNormalized :=
  ⟨normalizeNewlines_shrinks, fun _ => normalizeNewlines_of_no_cr, normalizeNewlines_crlf,
    fun _ => normalizeNewlines_cr, fun s _ => normalizeNewlines_other s⟩

end Sys2Proof.Proofs.Startup
end

section
/-! Binary and decimal addition and subtraction over the integers (R203 to R208), and ADC and SBC, which run them
(R202, R206). -/

namespace Sys2Proof.Proofs.AddSubtract

open Sys2Proof.Machine Sys2Proof.Laws Sys2Proof.Proofs.LoadStore Sys2Proof.Proofs.Logic

/-! ## Bytes as numbers -/

theorem toInt_byte (x : Byte) : x.toInt = if x.toNat < 128 then (x.toNat : Int) else x.toNat - 256 := by
  rw [BitVec.toInt_eq_toNat_cond]
  split <;> split <;> omega

theorem signBit (x : Byte) : ((x &&& 0x80#8) != 0x00#8) = x.msb := by
  revert x
  decide

theorem msb_byte (x : Byte) : x.msb = decide (128 ≤ x.toNat) := BitVec.msb_eq_decide x

theorem toNat_lowDigit (x : Byte) : (x &&& 0x0F#8).toNat = x.toNat % 16 := by
  rw [BitVec.toNat_and]
  exact Nat.and_two_pow_sub_one_eq_mod x.toNat 4

theorem highDigit (x : Byte) : (x &&& 0xF0#8).toNat = 16 * (x.toNat / 16) ∧
    (x &&& 0xF0#8).toInt = 16 * (x.toInt / 16) := by
  revert x
  decide

theorem toNat_complement (m : Byte) : (m ^^^ 0xFF#8).toNat = 255 - m.toNat := by
  have : m ^^^ 0xFF#8 = ~~~m := BitVec.xor_allOnes
  rw [this, BitVec.toNat_not]

/-! ## Binary (R203, R207) -/

theorem binAdd_r_toNat (a m : Byte) (c : Bool) :
    (binAdd a m c).r.toNat = (a.toNat + m.toNat + c.toNat) % 256 := BitVec.toNat_ofNat _ _

theorem binAdd_c_iff (a m : Byte) (c : Bool) : (binAdd a m c).c = true ↔ 256 ≤ a.toNat + m.toNat + c.toNat := by
  simp only [binAdd, decide_eq_true_eq]
  omega

/-- V is set where the operands have one sign and the result has the other. -/
theorem binAdd_v_iff_signs (a m : Byte) (c : Bool) : (binAdd a m c).v = true ↔
    (128 ≤ a.toNat ↔ 128 ≤ m.toNat) ∧ ¬ (128 ≤ a.toNat ↔ 128 ≤ (binAdd a m c).r.toNat) := by
  have v : (binAdd a m c).v = ((~~~(a ^^^ m)) &&& (a ^^^ (binAdd a m c).r) &&& 0x80#8 != 0x00#8) := rfl
  rw [v, signBit, BitVec.msb_and, BitVec.msb_not, BitVec.msb_xor, BitVec.msb_xor, msb_byte, msb_byte, msb_byte]
  by_cases ha : 128 ≤ a.toNat <;> by_cases hm : 128 ≤ m.toNat <;> simp [ha, hm]

theorem binAdd_v_iff (a m : Byte) (c : Bool) : (binAdd a m c).v = true ↔
    a.toInt + m.toInt + c.toNat < -128 ∨ 127 < a.toInt + m.toInt + c.toNat := by
  have hc := Bool.toNat_lt c
  rw [binAdd_v_iff_signs, binAdd_r_toNat, toInt_byte, toInt_byte]
  split <;> split <;> omega

theorem borrow_toNat (c : Bool) : (if c then 0 else 1 : Nat) = 1 - c.toNat := by cases c <;> rfl

/-- Settles O35: V by the signs of operands and result, and a subtraction as the addition of the complement. -/
theorem binaryArithmeticIsExact : Obligations.BinaryArithmeticIsExact := by
  intro a m c
  have hc := Bool.toNat_lt c
  have ha := a.isLt
  have hm := m.isLt
  have hnot := toNat_complement m
  have borrowInt : (if c then 0 else 1 : Int) = 1 - c.toNat := by cases c <;> rfl
  refine ⟨?sum, binAdd_v_iff a m c, ?difference, ?noBorrow, ?overflow⟩
  case sum =>
    simp only [binAdd_r_toNat, binAdd_c_iff]
    split <;> omega
  case difference =>
    apply BitVec.eq_of_toNat_eq
    have borrow : ((if c then 0 else 1 : Byte)).toNat = 1 - c.toNat := by cases c <;> rfl
    rw [binSub, binAdd_r_toNat, BitVec.toNat_sub, BitVec.toNat_sub, borrow]
    omega
  case noBorrow =>
    rw [binSub, binAdd_c_iff, borrowInt]
    omega
  case overflow =>
    rw [binSub, binAdd_v_iff, borrowInt, toInt_byte (m ^^^ 0xFF#8), toInt_byte m]
    split <;> split <;> omega

theorem binSub_c_iff (a m : Byte) (c : Bool) :
    (binSub a m c).c = true ↔ (0 : Int) ≤ (a.toNat : Int) - m.toNat + c.toNat - 1 := by
  have hm := m.isLt
  have hnot := toNat_complement m
  rw [binSub, binAdd_c_iff]
  omega

/-! ## Decimal (R205, R208) -/

/-- The low digits' sum of a decimal addition, carried into 16 where it is no digit. -/
def adjustedDigit (a m : Byte) (c : Bool) : Nat :=
  if 10 ≤ a.toNat % 16 + m.toNat % 16 + c.toNat then (a.toNat % 16 + m.toNat % 16 + c.toNat + 6) % 16 + 16
  else a.toNat % 16 + m.toNat % 16 + c.toNat

/-- The whole sum of a decimal addition, carried where it is past 99. -/
def decimalTotal (a m : Byte) (c : Bool) : Nat :=
  if 160 ≤ 16 * (a.toNat / 16) + 16 * (m.toNat / 16) + adjustedDigit a m c then
    16 * (a.toNat / 16) + 16 * (m.toNat / 16) + adjustedDigit a m c + 96
  else 16 * (a.toNat / 16) + 16 * (m.toNat / 16) + adjustedDigit a m c

theorem decAdd_exact (a m : Byte) (c : Bool) :
    (decAdd a m c).r.toNat = decimalTotal a m c % 256 ∧ ((decAdd a m c).c = true ↔ 256 ≤ decimalTotal a m c) ∧
    ((decAdd a m c).v = true ↔ 16 * (a.toInt / 16) + 16 * (m.toInt / 16) + adjustedDigit a m c < -128 ∨
      127 < 16 * (a.toInt / 16) + 16 * (m.toInt / 16) + (adjustedDigit a m c : Int)) := by
  obtain ⟨haNat, haInt⟩ := highDigit a
  obtain ⟨hmNat, hmInt⟩ := highDigit m
  simp only [decAdd, toNat_lowDigit, haNat, haInt, hmNat, hmInt, BitVec.toNat_ofNat, Bool.or_eq_true,
    decide_eq_true_eq]
  exact ⟨rfl, Iff.rfl, Iff.rfl⟩

/-- The difference of a decimal subtraction, less 96 where it borrows and less 6 where the low digits do. -/
def decimalDifference (a m : Byte) (c : Bool) : Int :=
  let low : Int := (a.toNat % 16 : Nat) - (m.toNat % 16 : Nat) + c.toNat - 1
  let difference : Int := (a.toNat : Int) - m.toNat + c.toNat - 1
  let high := if difference < 0 then difference - 96 else difference
  if low < 0 then high - 6 else high

theorem decSub_r (a m : Byte) (c : Bool) : ((decSub a m c).r.toNat : Int) = decimalDifference a m c % 256 := by
  have r : (decSub a m c).r = BitVec.ofInt 8 (decimalDifference a m c) := by
    simp only [decSub, decimalDifference, toNat_lowDigit]
  rw [r, BitVec.toNat_ofInt]
  omega

theorem validBcd_iff (b : Byte) : validBcd b = true ↔ b.toNat % 16 ≤ 9 ∧ b.toNat / 16 ≤ 9 := by
  simp [validBcd]

theorem decAdd_bcd {a m : Byte} (c : Bool) (ha : validBcd a = true) (hm : validBcd m = true) :
    validBcd (decAdd a m c).r = true ∧
    bcdValue (decAdd a m c).r + (if (decAdd a m c).c then 100 else 0) = bcdValue a + bcdValue m + c.toNat := by
  obtain ⟨r, carry, _⟩ := decAdd_exact a m c
  have hc := Bool.toNat_lt c
  rw [validBcd_iff] at *
  simp only [bcdValue, carry, r]
  unfold decimalTotal adjustedDigit
  repeat' split
  all_goals omega

theorem decSub_bcd {a m : Byte} (c : Bool) (ha : validBcd a = true) (hm : validBcd m = true) :
    validBcd (decSub a m c).r = true ∧
    bcdValue (decSub a m c).r + bcdValue m + (if c then 0 else 1) =
      bcdValue a + (if (decSub a m c).c then 0 else 100) := by
  have r := decSub_r a m c
  have carry : (decSub a m c).c = true ↔ _ := binSub_c_iff a m c
  have hc := Bool.toNat_lt c
  rw [validBcd_iff] at *
  simp only [bcdValue, carry, borrow_toNat]
  simp only [decimalDifference] at r
  repeat' split at r
  all_goals split <;> omega

/-- Settles O36: the decimal functions over the integers, and on valid operands by the bounds of their digits. -/
theorem decimalArithmeticIsBcd : Obligations.DecimalArithmeticIsBcd := by
  refine ⟨fun a m c ha hm => ?_, decAdd_exact, fun a m c => ⟨decSub_r a m c, rfl, rfl⟩⟩
  obtain ⟨sumValid, sum⟩ := decAdd_bcd c ha hm
  obtain ⟨differenceValid, difference⟩ := decSub_bcd c ha hm
  exact ⟨sumValid, differenceValid, sum, difference⟩

/-! ## ADC and SBC (R202, R206) -/

theorem exec_of_adc {i : Instr} {m : Mode} (s : State) (hi : mnemonicOf i = .adc) (hm : modeOf i = some m) :
    exec i s = .next
      (((afterOperand m s).addOperand (operandValue m s)).charge (costOf i) (resolve m s).1.crossed) := by
  cases i with
  | adcAbs | adcAbsX | adcAbsY | adcImm | adcZp | adcZpInd | adcZpIndY | adcZpX | adcZpXInd =>
    cases hm
    rw [costOf_of_encode rfl]
    rfl
  | _ => cases hi

theorem exec_of_sbc {i : Instr} {m : Mode} (s : State) (hi : mnemonicOf i = .sbc) (hm : modeOf i = some m) :
    exec i s = .next
      (((afterOperand m s).subOperand (operandValue m s)).charge (costOf i) (resolve m s).1.crossed) := by
  cases i with
  | sbcAbs | sbcAbsX | sbcAbsY | sbcImm | sbcZp | sbcZpInd | sbcZpIndY | sbcZpX | sbcZpXInd =>
    cases hm
    rw [costOf_of_encode rfl]
    rfl
  | _ => cases hi

section
variable (k : Cost) (m : Mode) (s : State)

theorem setAlu_charge (o : AluOut) : ((afterOperand m s).setAlu o).charge k (resolve m s).1.crossed =
    { afterOperand m s with
      a := o.r, flagC := o.c, flagV := o.v, flagN := o.r.getLsbD 7, flagZ := o.r == 0
      cycles := k.total (resolve m s).1.crossed s.flagD } := by
  rw [← afterOperand_flagD m s]; rfl

theorem setFreeDecimal_charge : (afterOperand m s).setFreeDecimal.charge k (resolve m s).1.crossed =
    { afterOperand m s with
      a := Config.freeDecimalA s.freeCount, flagN := Config.freeDecimalN s.freeCount
      flagV := Config.freeDecimalV s.freeCount, flagZ := Config.freeDecimalZ s.freeCount
      flagC := Config.freeDecimalC s.freeCount, freeCount := s.freeCount + 1
      cycles := k.total (resolve m s).1.crossed s.flagD } := by
  have count : (afterOperand m s).freeCount = s.freeCount := by simp [afterOperand]
  rw [← afterOperand_flagD m s, ← count]; rfl

/-- The conditions of a draw are the same after the operand's read (R204). -/
theorem drawsDecimal_afterOperand (v : Byte) : (afterOperand m s).drawsDecimal v = true ↔
    s.flagD = true ∧ s.cfg.decimalNonBcd = .draw ∧ ¬ (validBcd s.a = true ∧ validBcd v = true) := by
  have cfg : (afterOperand m s).cfg = s.cfg := by simp [afterOperand]
  rw [State.drawsDecimal, afterOperand_flagD, afterOperand_a, cfg]
  simp only [Bool.and_eq_true, beq_iff_eq, Bool.not_eq_true', ← Bool.not_eq_true, and_assoc]

end

/-- The three cases of ADC and SBC exclude each other: a draw needs D set (R204). -/
theorem select_of_cases {u op dec bin : State} {v : Byte}
    (h : (u.drawsDecimal v = true ∧ op = u.setFreeDecimal) ∨
      (u.drawsDecimal v = false ∧ u.flagD = true ∧ op = dec) ∨
      (u.drawsDecimal v = false ∧ u.flagD = false ∧ op = bin)) :
    (u.drawsDecimal v = true → op = u.setFreeDecimal) ∧
    (¬ u.drawsDecimal v = true → u.flagD = true → op = dec) ∧ (u.flagD = false → op = bin) := by
  have needsD := drawsDecimal_flagD u v
  rcases h with ⟨hdraw, rfl⟩ | ⟨hdraw, hd, rfl⟩ | ⟨hdraw, hd, rfl⟩ <;> simp_all

/-- Settles O37: the three cases of ADC and SBC, told apart by the draw and D. -/
theorem addAndSubtract : Obligations.AddAndSubtract := by
  intro i m s hm u v result draws drawn
  have carry : u.flagC = s.flagC := by simp [u, afterOperand]
  have flagD : u.flagD = s.flagD := afterOperand_flagD m s
  have a : u.a = s.a := afterOperand_a m s
  have drawsIff : u.drawsDecimal v = true ↔ draws := drawsDecimal_afterOperand m s v
  have resultOf (o : AluOut) : (u.setAlu o).charge (costOf i) (resolve m s).1.crossed = result o :=
    setAlu_charge _ m s o
  have drawnOf : u.setFreeDecimal.charge (costOf i) (resolve m s).1.crossed = drawn := setFreeDecimal_charge _ m s
  have outcome {op : State} {dec bin : AluOut}
      (hexec : exec i s = .next (op.charge (costOf i) (resolve m s).1.crossed))
      (h : (u.drawsDecimal v = true ∧ op = u.setFreeDecimal) ∨
        (u.drawsDecimal v = false ∧ u.flagD = true ∧ op = u.setAlu dec) ∨
        (u.drawsDecimal v = false ∧ u.flagD = false ∧ op = u.setAlu bin)) :
      (draws → exec i s = .next drawn) ∧ (¬ draws → s.flagD = true → exec i s = .next (result dec)) ∧
        (s.flagD = false → exec i s = .next (result bin)) := by
    obtain ⟨draw, decimal, binary⟩ := select_of_cases h
    rw [drawsIff] at draw decimal
    rw [flagD] at decimal binary
    rw [hexec, ← drawnOf, ← resultOf, ← resultOf]
    exact ⟨fun h => by rw [draw h], fun h hd => by rw [decimal h hd], fun hd => by rw [binary hd]⟩
  refine ⟨afterOperand_onlyRead s m, fun hi => ?_, fun hi => ?_⟩
  · have cases_adc := outcome (exec_of_adc s hi hm) (addOperand_cases u v)
    rwa [a, carry] at cases_adc
  · have cases_sbc := outcome (exec_of_sbc s hi hm) (subOperand_cases u v)
    rwa [a, carry] at cases_sbc

end Sys2Proof.Proofs.AddSubtract
end

section
/-! Addressing modes (R130 to R147): the effective address, where a page is crossed, and the operand's value. -/

namespace Sys2Proof.Proofs.Operands

open Sys2Proof.Machine Sys2Proof.Laws Sys2Proof.Proofs.LoadStore

theorem indexed_crossed_iff (base : Word) (index : Byte) :
    (Operand.indexed base index).crossed = true ↔ hi8 base ≠ hi8 (base + zext16 index) := by
  simp [Operand.indexed, pageCrossed]

/-- Only the modes that add an index to a word can cross a page (R146). -/
theorem not_crossed {m : Mode} (hindY : ∀ v, m ≠ .zpIndY v) (hX : ∀ v, m ≠ .absX v) (hY : ∀ v, m ≠ .absY v)
    (s : State) : (resolve m s).1.crossed = false := by
  cases m with
  | zpIndY z => exact absurd rfl (hindY z)
  | absX w => exact absurd rfl (hX w)
  | absY w => exact absurd rfl (hY w)
  | _ => rfl

/-- Settles O28: each mode's address by its definition, and the crossing by `Operand.indexed`. -/
theorem effectiveAddresses : Obligations.EffectiveAddresses := fun s _ _ =>
  ⟨rfl, rfl, rfl, rfl, rfl, rfl, rfl, rfl, rfl, rfl, rfl, indexed_crossed_iff _ _, indexed_crossed_iff _ _,
    indexed_crossed_iff _ _, fun _ hindY hX hY => not_crossed hindY hX hY s⟩

/-- An operand at an address is the byte that the Bus gives there (R147). -/
theorem operandValue_of_storeAddr {m : Mode} {s : State} {ea : Word} (h : storeAddr m s = some ea) :
    operandValue m s = (afterAddress m s).busValue ea := by
  rw [operandValue, readM, loc_of_storeAddr h]
  rfl

/-- Settles O29, by the frames of an address and of an operand access, and the place of the operand in each mode. -/
theorem operandAccessChangesOnlyPcAndQueue : Obligations.OperandAccessChangesOnlyPcAndQueue := by
  intro m s
  refine ⟨afterAddress_onlyRead s m, afterOperand_onlyRead s m, ?_, ?_, fun _ => operandValue_of_storeAddr⟩
  · rintro rfl; rfl
  · rintro v rfl; rfl

end Sys2Proof.Proofs.Operands
end

section
/-! The Bus and what stands behind it: a write and what other addresses read (R55 to R62), the keyboard (R70 to R74),
the bank-select register (R61), and the NMI input (R35). -/

namespace Sys2Proof.Proofs.Bus

open Sys2Proof.Machine Sys2Proof.Laws Sys2Proof.Proofs.Invariant Sys2Proof.Proofs.Memory Sys2Proof.Proofs.LoadStore

/-! ## What each region reads and writes -/

section
variable {s : State} {a : Word}

theorem busValue_of_ram (h : s.regionAt a = some .ram) : s.busValue a = s.mem.read a.toNat :=
  Fetch.busValue_of_storage (.inl h)

theorem busValue_of_video (h : s.regionAt a = some .video) : s.busValue a = s.videoBuf.read (s.videoOffset a) := by
  unfold State.busValue; rw [h]

theorem busValue_of_uart (h : s.regionAt a = some .uart) : s.busValue a = s.uartValue a := by
  unfold State.busValue; rw [h]

theorem busValue_of_keyboard (h : s.regionAt a = some .keyboard) : s.busValue a = s.kbdValue a := by
  unfold State.busValue; rw [h]

theorem busValue_of_bankReg (h : s.regionAt a = some .bankReg) : s.busValue a = s.bankRegValue := by
  unfold State.busValue; rw [h]

theorem busValue_of_bankWindow (h : s.regionAt a = some .bankWindow) : s.busValue a = s.bankWindowValue a := by
  unfold State.busValue; rw [h]

theorem busValue_of_unmapped (h : s.regionAt a = none) : s.busValue a = 0x00 := by
  unfold State.busValue; rw [h]

theorem write8_of_unmapped (h : s.regionAt a = none) (v : Byte) : s.write8 a v = s := by
  unfold State.write8; rw [h]

theorem write8_of_keyboard (h : s.regionAt a = some .keyboard) (v : Byte) :
    s.write8 a v = if a = s.cfg.kbdRowAddr then { s with kbdRowSel := v } else s := by
  unfold State.write8; rw [h]

theorem write8_of_bankReg (h : s.regionAt a = some .bankReg) (v : Byte) :
    s.write8 a v = { s with bankSel := s.bankSelect v } := by
  unfold State.write8; rw [h]

theorem write8_of_bankWindow (h : s.regionAt a = some .bankWindow) (v : Byte) : s.write8 a v = s := by
  unfold State.write8; rw [h]

/-- Only a read in the UART block can pop the queue (R62). -/
theorem read8_of_keyboard (h : s.regionAt a = some .keyboard) : s.read8 a = (s.kbdValue a, s) := by
  rw [read8_spec, busValue_of_keyboard h]
  unfold State.queueAfterRead
  rw [h]

end

/-! ## A write and the other addresses (R62) -/

/-- The bank-select register is one address (R61). -/
theorem eq_regAddr_of_bankReg {c : Config} (platform : Platform c) {a : Word}
    (h : lookupRegion c.regions a = some .bankReg) : ∃ b, c.bank = some b ∧ a = b.regAddr := by
  obtain ⟨r, hr, hk, _⟩ := exists_region_of_lookup h
  have formed := platform.bank
  cases hb : c.bank with
  | none =>
    rw [Config.bankWellFormed, hb] at formed
    have absent := List.all_eq_true.1 formed r hr
    simp [hk] at absent
  | some b =>
    have within := within_of_lookup (bankFormed_of_wired formed hb).register h
    exact ⟨b, rfl, BitVec.eq_of_toNat_eq (by omega)⟩

/-- Distinct video addresses have distinct offsets: neither lies below the buffer (R76). -/
theorem videoOffset_ne {s : State} (platform : Platform s.cfg) {a b : Word} (ha : s.regionAt a = some .video)
    (hb : s.regionAt b = some .video) (hne : b ≠ a) : s.videoOffset b ≠ s.videoOffset a := by
  have inA := within_of_lookup platform.video ha
  have inB := within_of_lookup platform.video hb
  have : b.toNat ≠ a.toNat := fun e => hne (BitVec.eq_of_toNat_eq e)
  unfold State.videoOffset
  omega

/-- The keyboard shows a store of ROWSEL at ROWSEL and at COL only. -/
theorem kbdValue_stored {s t : State} {ea b : Word} {v : Byte} (h : Stored s t ea v) (hne : b ≠ ea)
    (hcol : ¬ (ea = s.cfg.kbdRowAddr ∧ b = s.cfg.kbdColAddr)) : t.kbdValue b = s.kbdValue b := by
  rw [h.rest]
  by_cases hrow : s.regionAt ea = some .keyboard ∧ ea = s.cfg.kbdRowAddr
  · have notRow : b ≠ s.cfg.kbdRowAddr := hrow.2 ▸ hne
    have notCol : b ≠ s.cfg.kbdColAddr := fun e => hcol ⟨hrow.2, e⟩
    simp [State.kbdValue, notRow, notCol]
  · have kept : t.kbdRowSel = s.kbdRowSel := by
      by_cases hk : s.regionAt ea = some .keyboard
      · rw [h.rowSelect hk, if_neg fun e => hrow ⟨hk, e⟩]
      · exact h.notKeyboard hk
    rw [kept]
    rfl

/-- No store reaches what another address reads, but for COL after ROWSEL and the window after the bank register. -/
theorem busValue_stored {s t : State} (platform : Platform s.cfg) {ea b : Word} {v : Byte} (h : Stored s t ea v)
    (hne : b ≠ ea) (hcol : ¬ (ea = s.cfg.kbdRowAddr ∧ b = s.cfg.kbdColAddr))
    (hwindow : ¬ (s.regionAt ea = some .bankReg ∧ s.regionAt b = some .bankWindow)) :
    t.busValue b = s.busValue b := by
  have cfg : t.cfg = s.cfg := (congrArg State.cfg h.rest :)
  have at_b := regionAt_of_cfg cfg b
  have byte : t.mem.read b.toNat = s.mem.read b.toNat :=
    h.otherBytes _ fun e => hne (BitVec.eq_of_toNat_eq e)
  match hb : s.regionAt b with
  | none => rw [busValue_of_unmapped (at_b.trans hb), busValue_of_unmapped hb]
  | some .ram => rw [busValue_of_ram (at_b.trans hb), busValue_of_ram hb, byte]
  | some .rom => rw [busValue_of_rom (at_b.trans hb), busValue_of_rom hb, byte]
  | some .uart =>
    rw [busValue_of_uart (at_b.trans hb), busValue_of_uart hb]
    exact (congrArg (fun u : State => u.uartValue b) h.rest :)
  | some .keyboard =>
    rw [busValue_of_keyboard (at_b.trans hb), busValue_of_keyboard hb, kbdValue_stored h hne hcol]
  | some .video =>
    have offset : t.videoOffset b = s.videoOffset b := by rw [State.videoOffset, cfg]; rfl
    rw [busValue_of_video (at_b.trans hb), busValue_of_video hb, offset]
    by_cases hea : s.regionAt ea = some .video
    · exact h.otherVideo _ (videoOffset_ne platform hea hb hne)
    · rw [h.notVideo hea]
  | some .bankReg =>
    have notBank : s.regionAt ea ≠ some .bankReg := fun hea => by
      obtain ⟨c, hc, rfl⟩ := eq_regAddr_of_bankReg platform hea
      obtain ⟨c', hc', rfl⟩ := eq_regAddr_of_bankReg platform hb
      rw [hc, Option.some.injEq] at hc'
      exact hne (congrArg BankConfig.regAddr hc'.symm)
    rw [busValue_of_bankReg (at_b.trans hb), busValue_of_bankReg hb, State.bankRegValue, h.notBank notBank]
    rfl
  | some .bankWindow =>
    have kept : t.bankSel = s.bankSel := h.notBank fun hea => hwindow ⟨hea, hb⟩
    rw [busValue_of_bankWindow (at_b.trans hb), busValue_of_bankWindow hb, State.bankWindowValue, cfg, kept]
    rfl

/-- Settles O16: a write is one store, and a store is seen at no other address. -/
theorem writeChangesOnlyItsByte : Obligations.WriteChangesOnlyItsByte := by
  intro s ea v inv
  have platform := platform_of_wellFormed inv.platform
  have stored : Stored s (s.write8 ea v) ea v := write8_stored ⟨inv.memCanonical, inv.videoCanonical⟩ ea v
  have at_ea := regionAt_of_cfg (write8_cfg s ea v) ea
  refine ⟨stored, fun h => ⟨write8_of_unmapped h v, busValue_of_unmapped h⟩, ?_,
    fun b => busValue_stored platform stored⟩
  rintro (h | h)
  · rw [busValue_of_ram (at_ea.trans h), stored.ram h]
  · have offset : (s.write8 ea v).videoOffset ea = s.videoOffset ea := by
      rw [State.videoOffset, write8_cfg]; rfl
    rw [busValue_of_video (at_ea.trans h), offset, stored.video h]

/-! ## The bank-select register (R61) -/

/-- Settles O56: the register takes v mod BANK_COUNT, which a byte holds, and the window reads that bank. -/
theorem bankSwitchActsAtOnce : Obligations.BankSwitchActsAtOnce := by
  intro s b v w a inv hb hreg hwindow t
  have formed := bankFormed_of_wired (platform_of_wellFormed inv.platform).bank hb
  have after : t = { s with bankSel := v.toNat % b.count } := by
    rw [← show s.bankSelect v = v.toNat % b.count by rw [State.bankSelect, hb]]
    exact write8_of_bankReg hreg v
  have cfg : t.cfg = s.cfg := write8_cfg s _ v
  have selected : t.bankSel = v.toNat % b.count := congrArg State.bankSel after
  have small : v.toNat % b.count < 256 := Nat.lt_of_lt_of_le (Nat.mod_lt _ formed.someBank) formed.byteNames
  refine ⟨selected, ?_, ?_, write8_of_bankWindow hwindow w⟩
  · rw [busValue_of_bankReg ((regionAt_of_cfg cfg _).trans hreg), State.bankRegValue, selected, BitVec.toNat_ofNat,
      Nat.mod_eq_of_lt small]
  · rw [busValue_of_bankWindow ((regionAt_of_cfg cfg a).trans hwindow), State.bankWindowValue, cfg, hb, selected]

/-! ## The keyboard (R70 to R74) -/

theorem keyboard_parameters_of_inv {s : State} (inv : Inv s) : s.regionAt s.cfg.kbdRowAddr = some .keyboard ∧
    s.regionAt s.cfg.kbdColAddr = some .keyboard ∧ s.cfg.kbdColAddr ≠ s.cfg.kbdRowAddr := by
  have platform := platform_of_wellFormed inv.platform
  have formed := platform.keyboard
  simp only [Config.kbdWellFormed, Bool.and_eq_true, bne_iff_ne] at formed
  obtain ⟨⟨apart, row⟩, col⟩ := formed
  exact ⟨lookupRegion_of_hasRegister platform.apart row, lookupRegion_of_hasRegister platform.apart col, apart.symm⟩

theorem getLsbD_byteOfBits (f : Fin 8 → Bool) (c : Fin 8) : (byteOfBits f).getLsbD c = f c := by
  rw [byteOfBits, BitVec.getLsbD_ofBoolListLE]
  match c with
  | 0 | 1 | 2 | 3 | 4 | 5 | 6 | 7 => rfl

theorem getLsbD_kbdCol (s : State) (c : Fin 8) :
    s.kbdCol.getLsbD c = true ↔ (s.kbdColumnDown c = true ↔ s.cfg.kbdActiveLow = false) := by
  have bit := getLsbD_byteOfBits s.kbdColumnDown c
  unfold State.kbdCol
  cases s.cfg.kbdActiveLow <;> simp [bit, -BitVec.getLsbD_eq_getElem]

theorem vector_get_eq {α : Type} {n : Nat} (xs : Vector α n) (i : Fin n) : xs.get i = xs[i.val] := rfl

theorem kbdMatrix_keyEvent (s : State) (r c r' c' : Fin 8) (p : Bool) :
    ((s.keyEvent r c p).kbdMatrix.get r').get c' = if r' = r ∧ c' = c then p else (s.kbdMatrix.get r').get c' := by
  simp only [State.keyEvent, vector_get_eq, Vector.getElem_set, Fin.val_inj]
  by_cases hr : r' = r
  · subst hr
    by_cases hc : c' = c <;> simp [hc, Ne.symm, Fin.val_inj]
  · simp [hr, Ne.symm hr]

/-- Settles O55: COL is the columns of the selected rows of the matrix after the event. -/
theorem keyboardColumnShowsSelectedRows : Obligations.KeyboardColumnShowsSelectedRows := by
  intro s v r c c' p inv t
  obtain ⟨row, col, apart⟩ := keyboard_parameters_of_inv inv
  have after : t = { s.keyEvent r c p with kbdRowSel := v } :=
    (write8_of_keyboard (s := s.keyEvent r c p) row v).trans (if_pos rfl)
  have cfg : t.cfg = s.cfg := (congrArg State.cfg after :)
  have at_t (a : Word) := regionAt_of_cfg cfg a
  have selected : t.kbdRowSel = v := (congrArg State.kbdRowSel after :)
  have matrix : t.kbdMatrix = (s.keyEvent r c p).kbdMatrix := (congrArg State.kbdMatrix after :)
  refine ⟨?_, ?_, fun a ha => ?_, fun a ha hrow hcol => ?_, fun a w ha hrow => ?_⟩
  · rw [busValue_of_keyboard ((at_t _).trans row), State.kbdValue, cfg, if_pos rfl, selected]
  · have value : t.busValue s.cfg.kbdColAddr = t.kbdCol := by
      rw [busValue_of_keyboard ((at_t _).trans col), State.kbdValue, cfg, if_neg apart, if_pos rfl]
    have down : t.kbdColumnDown c' = true ↔ ∃ r' ∈ decodeRows s.cfg.kbdRowDecode v,
        (if r' = r ∧ c' = c then p else (s.kbdMatrix.get r').get c') = true := by
      simp only [State.kbdColumnDown, cfg, selected, matrix, kbdMatrix_keyEvent, List.any_eq_true]
    rw [value, getLsbD_kbdCol, down, cfg]
  · rw [read8_of_keyboard ((at_t a).trans ha)]
  · rw [busValue_of_keyboard ((at_t a).trans ha), State.kbdValue, cfg, if_neg hrow, if_neg hcol]
  · rw [write8_of_keyboard ((at_t a).trans ha), cfg, if_neg hrow]

/-! ## The NMI input (R35) -/

/-- Settles O23, by the two levels of the line before and after. -/
theorem nmiIsEdgeTriggered : Obligations.NmiIsEdgeTriggered := by
  intro s level
  refine ⟨rfl, ?_, ?_, ?_, ?_⟩
  · rintro rfl h; simp [State.setNmi, h]
  · intro h; simp [State.setNmi, h]
  · rintro rfl; simp [State.setNmi]
  · simp [State.setNmi]

end Sys2Proof.Proofs.Bus
end

section
/-! Calls and returns on a stack in RAM (R294 to R297): what JSR and BRK push is what RTS and RTI pull. -/

namespace Sys2Proof.Proofs.Subroutine

open Sys2Proof.Machine Sys2Proof.Laws Sys2Proof.Proofs.Memory Sys2Proof.Proofs.LoadStore Sys2Proof.Proofs.Control
open Sys2Proof.Proofs.Bus

/-! ## Pulling from a stack in RAM -/

theorem stackIsRam_of_cfg {s t : State} (h : s.stackIsRam) (hcfg : t.cfg = s.cfg) : t.stackIsRam :=
  fun p => (regionAt_of_cfg hcfg _).trans (h p)

theorem pull8_of_stackIsRam {s : State} (h : s.stackIsRam) :
    s.pull8.1 = s.mem.read (stackAddr (s.sp + 1)).toNat := busValue_of_ram (h (s.sp + 1))

/-- The next pull reads the next stack byte: a pull stores nothing. -/
theorem pull8_pull8_of_stackIsRam {s : State} (h : s.stackIsRam) :
    s.pull8.2.pull8.1 = s.mem.read (stackAddr (s.sp + 2)).toNat := by
  have hsp : s.sp + 2 = s.sp + 1 + 1 := by bv_omega
  rw [pull8_of_stackIsRam (stackIsRam_of_cfg h (pull8_cfg s)), pull8_mem, pull8_sp, hsp]

theorem pull8_pull8_pull8_of_stackIsRam {s : State} (h : s.stackIsRam) :
    s.pull8.2.pull8.2.pull8.1 = s.mem.read (stackAddr (s.sp + 3)).toNat := by
  have hsp : s.sp + 3 = s.sp + 1 + 2 := by bv_omega
  rw [pull8_pull8_of_stackIsRam (stackIsRam_of_cfg h (pull8_cfg s)), pull8_mem, pull8_sp, hsp]

theorem onlyControl_cfg {s t : State} (h : OnlyControl s t) : t.cfg = s.cfg := (congrArg State.cfg h :)

theorem onlyControl_of_onlyRead {s t : State} {n : Nat} (h : OnlyRead s t n) : OnlyControl s t := by
  obtain ⟨ht, _⟩ := h
  unfold OnlyControl
  rw [ht]

/-! ## JSR (R294) -/

theorem jsrPushed_eq (s : State) : s.jsrPushed = (s.operandFetch.push8 (hi8 (s.pc + 1))).push8 (lo8 (s.pc + 1)) := rfl

theorem jsrPushed_onlyControl (s : State) : OnlyControl s s.jsrPushed :=
  onlyControl_trans (onlyControl_trans (onlyControl_of_onlyRead (operandFetch_onlyRead s)) (push8_onlyControl _ _))
    (push8_onlyControl _ _)

theorem jsrPushed_mem_other {s : State} {n : Nat} (hhi : n ≠ (stackAddr s.sp).toNat)
    (hlo : n ≠ (stackAddr (s.sp - 1)).toNat) : s.jsrPushed.mem.read n = s.mem.read n := by
  rw [jsrPushed_eq, push8_mem_other _ _ (by rwa [push8_sp, operandFetch_sp]),
    push8_mem_other _ _ (by rwa [operandFetch_sp]), operandFetch_mem]

/-- On a stack in RAM the two pushes are two writes of memory. -/
theorem jsrPushed_of_stackIsRam {s : State} (h : s.stackIsRam) : s.jsrPushed = { s.operandFetch with
    sp := s.sp - 1 - 1
    mem := (s.mem.write (stackAddr s.sp).toNat (hi8 (s.pc + 1))).write (stackAddr (s.sp - 1)).toNat
      (lo8 (s.pc + 1)) } := by
  have fetched : s.operandFetch.stackIsRam := h
  rw [jsrPushed_eq, push8_of_stackIsRam (push8_stackIsRam fetched _), push8_of_stackIsRam fetched]
  rfl

theorem jsrPushed_mem_stack {s : State} (h : s.stackIsRam) (hs : s.mem.wf = true) :
    s.jsrPushed.mem.read (stackAddr s.sp).toNat = hi8 (s.pc + 1) ∧
    s.jsrPushed.mem.read (stackAddr (s.sp - 1)).toNat = lo8 (s.pc + 1) := by
  have apart : (stackAddr s.sp).toNat ≠ (stackAddr (s.sp - 1)).toNat := stackAddr_toNat_ne (by bv_omega)
  rw [jsrPushed_of_stackIsRam h]
  exact ⟨(read_write_other _ _ _ _ apart).trans (read_write_same _ _ _ hs),
    read_write_same _ _ _ (wf_write _ _ _ (stackAddr s.sp).isLt hs)⟩

theorem jsrPushed_sp (s : State) : s.jsrPushed.sp = s.sp - 2 := by
  have hsp : s.sp - 2 = s.sp - 1 - 1 := by bv_omega
  rw [hsp, jsrPushed_eq, push8_sp, push8_sp]
  rfl

/-- Behind the pushes JSR fetches its third byte, and writes PC and the count. -/
theorem opJsr_eq (w : Word) (s : State) : opJsr w (.fixed 6) s = (s.jsrPushed.operandFetch.setPC w).setCycles 6 := rfl

theorem opJsr_onlyControl (w : Word) (s : State) : OnlyControl s (opJsr w (.fixed 6) s) := by
  have jump (u : State) : OnlyControl u ((u.setPC w).setCycles 6) := rfl
  have fetched := onlyControl_of_onlyRead (operandFetch_onlyRead s.jsrPushed)
  exact onlyControl_trans (onlyControl_trans (jsrPushed_onlyControl s) fetched) (jump _)

/-- Settles O48, by the two pushes of `jsrPushed`. -/
theorem jsrPushesReturnAddress : Obligations.JsrPushesReturnAddress := by
  intro w s
  have mem : (opJsr w (.fixed 6) s).mem = s.jsrPushed.mem := by simp [opJsr_eq]
  refine ⟨opJsr w (.fixed 6) s, rfl, ?_, ?_, ?_, ?_, opJsr_onlyControl w s, ?_, ?_, ?_⟩
  · rw [opJsr_eq, setCycles_pc, setPC_pc]
  · simp [opJsr_eq, jsrPushed_sp]
  · rw [opJsr_eq, setCycles_cycles]
  · simp [SameFlags, opJsr_eq, jsrPushed_eq]
  · rw [mem]
    exact fun n hhi hlo => jsrPushed_mem_other hhi hlo
  · intro h
    simp [opJsr_eq, jsrPushed_of_stackIsRam h]
  · rw [mem]
    exact fun h hs => jsrPushed_mem_stack h hs.1

/-- Settles O50: RTS pulls the word that JSR pushed, the address of its last byte, and adds 1. -/
theorem rtsUndoesJsr : Obligations.RtsUndoesJsr := by
  intro w s t hram hs hjsr
  obtain ⟨t', ht', _, sp, _, flags, control, _, _, stacked⟩ := jsrPushesReturnAddress w s
  obtain rfl : t' = t := Host.Outcome.next.inj (ht'.symm.trans hjsr)
  obtain ⟨high, low⟩ := stacked hram hs
  have ram := stackIsRam_of_cfg hram (onlyControl_cfg control)
  obtain ⟨u, hu, pc, frame, _⟩ := rtsReturnsPastPulledAddress t'
  have first : t'.sp + 1 = s.sp - 1 := by bv_omega
  have second : t'.sp + 2 = s.sp := by bv_omega
  have address : joinBytes t'.pull8.2.pull8.1 t'.pull8.1 = s.pc + 1 := by
    rw [pull8_of_stackIsRam ram, pull8_pull8_of_stackIsRam ram, first, second, high, low, joinBytes_hi8_lo8]
  refine ⟨u, hu, ?_, ?_, (congrArg State.mem frame :), ?_⟩
  · rw [pc, address]; bv_omega
  · exact (congrArg State.sp frame :).trans second
  · rw [frame]; exact flags

/-! ## RTI after BRK (R296, R297) -/

/-- Settles O26: RTI pulls the flag byte and the PC that BRK pushed. -/
theorem rtiUndoesBrk : Obligations.RtiUndoesBrk := by
  intro sig s t hram hs hbrk
  obtain ⟨t', ht', _, _, entered⟩ := brkEntersThroughIrqVector sig s
  obtain rfl : t' = t := Host.Outcome.next.inj (ht'.symm.trans hbrk)
  obtain ⟨high, low, flagByte⟩ : t'.mem.read (stackAddr s.sp).toNat = hi8 (s.pc + 1) ∧
      t'.mem.read (stackAddr (s.sp - 1)).toNat = lo8 (s.pc + 1) ∧
      t'.mem.read (stackAddr (s.sp - 2)).toNat = s.operandFetch.pByte true := entered.pushed hram hs
  have ram := stackIsRam_of_cfg (s := s) hram (onlyControl_cfg entered.rest)
  have sp : t'.sp = s.sp - 3 := entered.sp
  have first : t'.sp + 1 = s.sp - 2 := by bv_omega
  have second : t'.sp + 2 = s.sp - 1 := by bv_omega
  have third : t'.sp + 3 = s.sp := by bv_omega
  have flags : t'.pull8.1 = s.operandFetch.pByte true := by
    rw [pull8_of_stackIsRam ram, first]; exact flagByte
  have address : joinBytes t'.pull8.2.pull8.2.pull8.1 t'.pull8.2.pull8.1 = s.pc + 1 := by
    rw [pull8_pull8_of_stackIsRam ram, pull8_pull8_pull8_of_stackIsRam ram, second, third, high, low,
      joinBytes_hi8_lo8]
  obtain ⟨n, v, _, _, d, i, z, c⟩ := entered.flagByte
  obtain ⟨u, hu, hn, hv, hd, hi, hz, hc, hpc, hsp, _, _, _, _, _, control⟩ := rtiRestoresFlagsAndPc t'
  rw [flags] at hn hv hd hi hz hc
  have whole := onlyControl_trans entered.rest control
  refine ⟨u, hu, hpc.trans address, hsp.trans third,
    ⟨hn.trans n, hv.trans v, hd.trans d, hi.trans i, hz.trans z, hc.trans c⟩, (congrArg State.a whole :),
    (congrArg State.x whole :), (congrArg State.y whole :), (congrArg State.run whole :)⟩

end Sys2Proof.Proofs.Subroutine
end
